-- ==== Sys2Proof/Word.lean ====
section
/-! DEFINITION. The widths of the part: bytes, port words and wheel timestamps. -/

namespace Sys2Proof

/-- A byte of the exchange memory or of the sensor bus (R182). -/
abbrev Byte := BitVec 8

/-- A 16-bit word of the exchange port (R163, R182). -/
abbrev Word := BitVec 16

/-- A value of the wheel timestamp counter, in µs, modulo 2³² (R102). -/
abbrev Stamp := BitVec 32

end Sys2Proof
end

