-- ==== Sys2Proof/Syntax.lean ====
section
/-! DEFINITION. The commands of the block: one constructor of `Instr` for each row of
spec/opcode_table.json, with the operands its rule gives the event. -/

namespace Sys2Proof

/-- The three contact lines (R5, Table 0-2). -/
inductive Line where
  | lke | lkr | lrq
deriving DecidableEq, Repr

/-- The three wheels, codes 0 (WPA), 1 (WPB) and 2 (WPC) (R102). -/
inductive Wheel where
  | frontLeft | frontRight | rear
deriving DecidableEq, Repr

/-- The two bridges and their drive channels (R131); instances 0 and 1 of BRIDGE_HOT (R127). -/
inductive Bridge where
  | tilt | steer
deriving DecidableEq, Repr

/-- The twenty fault kinds in code order, codes 1 to 20 (Table 9-1, R145). -/
inductive FaultKind where
  | leanFallback | leanLost | rateFallback | rateLost | steerFallback
  | steerLost | torqueLost | wheelDegraded | speedLost | lockReleaseTimeout
  | lockEngageFailed | lockPositionLost | lockContactsConflict | tiltOvercurrent | steerOvercurrent
  | supplyLow | supplyHigh | bridgeHot | sensorBusStuck | directiveOverrun
deriving DecidableEq, Repr

/-- What a host access does: a read, or a write of a word (R163). -/
inductive AccessOp where
  | read
  | write (w : Word)
deriving DecidableEq, Repr

/-- How much of a guarded access the command brings: the whole of it at one moment, its beginning, or
the completion of the one in progress (R165 and R168 tell the moments apart; assumption 10). -/
inductive AccessEvent where
  | whole (addr : Word) (op : AccessOp)
  | begins (addr : Word) (op : AccessOp)
  | completes
deriving DecidableEq, Repr

/-- What the master found on the lines for a transaction (R69, R84, R85): the levels it read on SDA, one for
the acknowledge of each byte it sent and eight for each byte it received, in order, `true` for high; or a
line low before the start. -/
inductive BusAnswer where
  | levels (sda : List Bool)
  | lineLow
deriving DecidableEq, Repr

/-- The commands, in the order of the table. -/
inductive Instr where
  /-- POWER_ON_RESET (R164). -/
  | powerOnReset
  /-- PIN_RESET (R164): RSTN goes low. -/
  | pinReset
  /-- SOFT_RESET (R164): the word written to XCTRL, its bit 1 set. -/
  | softReset (w : Word)
  /-- SET_PORT_MODE (R179): the word written to XCTRL, its bit 1 clear. -/
  | setPortMode (w : Word)
  /-- RESET_END (R164). -/
  | resetEnd
  /-- XSTAT_HOLD_READ (R167). -/
  | xstatHoldRead
  /-- XCAUSE_WRITE (R180): the word written. -/
  | xcauseWrite (w : Word)
  /-- REGISTER_WRITE (R195): the address and the word. -/
  | registerWrite (addr : Word) (w : Word)
  /-- HOST_GUARDED_ACCESS (R166). -/
  | hostGuardedAccess (a : AccessEvent)
  /-- HOST_SCRATCH_ACCESS (R163). -/
  | hostScratchAccess (addr : Word) (op : AccessOp)
  /-- EXCHANGE_TIMER_EXPIRY (R165). -/
  | exchangeTimerExpiry
  /-- DEFERRAL_LIMIT_EXPIRY (R168). -/
  | deferralLimitExpiry
  /-- WINDOW_OPEN (R169): the open window's work, from its first step to its close. -/
  | windowOpen
  /-- CONTROL_CYCLE_EXPIRY (R27), at a value of the wheel timestamp counter (R109). -/
  | controlCycleExpiry (now : Stamp)
  /-- COMPUTATION_COMPLETE (R48). -/
  | computationComplete
  /-- CONTACT_LINE_CHANGE (R5): the line and its new level, closed or open. -/
  | contactLineChange (line : Line) (closed : Bool)
  /-- CONTACT_ACCEPTED (R5). -/
  | contactAccepted (line : Line)
  /-- RELEASE_LIMIT_EXPIRY (R16). -/
  | releaseLimitExpiry
  /-- ENGAGE_LIMIT_EXPIRY (R21). -/
  | engageLimitExpiry
  /-- RELEASE_HOLD_OFF_EXPIRY (R8). -/
  | releaseHoldOffExpiry
  /-- SOLENOID_PULL_IN_EXPIRY (R142). -/
  | solenoidPullInExpiry
  /-- ROUND_TIMER_EXPIRY (R74). -/
  | roundTimerExpiry
  /-- POLL_COMPLETE (R79): what the master read, and whether the stop formed (R84). -/
  | pollComplete (a : BusAnswer) (stopFormed : Bool)
  /-- PASS_THROUGH_COMPLETE (R83): what the master read, and whether the stop formed (R84). -/
  | passThroughComplete (a : BusAnswer) (stopFormed : Bool)
  /-- SCL_HOLD_TIMEOUT (R84): the levels of the lines a given-up clear then reads (R86). -/
  | sclHoldTimeout (sdaHigh sclHigh : Bool)
  /-- BUS_CLEAR_COMPLETE (R86): the levels of the lines it then reads. -/
  | busClearComplete (sdaHigh sclHigh : Bool)
  /-- WHEEL_PULSE (R106): the wheel whose line has a rising edge, and the timestamp the arrival carries
  (R102). -/
  | wheelPulse (wheel : Wheel) (stamp : Stamp)
  /-- NORMAL_CONVERSION_COMPLETE (R119): the raw count of the channel at the chain's position. -/
  | normalConversionComplete (raw : BitVec 12)
  /-- INJECTED_TRIGGER (R121). -/
  | injectedTrigger
  /-- INJECTED_COMPLETE (R122): the raw counts of AN6 and AN7, and the channel that takes the
  completion first (R135; assumption 18). -/
  | injectedComplete (rawTilt rawSteer : BitVec 12) (first : Bridge)
  /-- PWM_PERIOD_START (R132). -/
  | pwmPeriodStart
  /-- ACK_TIMER_EXPIRY (R152). -/
  | ackTimerExpiry (kind : FaultKind)
  /-- FLTN_MIN_TIMER_EXPIRY (R156). -/
  | fltnMinTimerExpiry
deriving DecidableEq, Repr

end Sys2Proof
end

