-- ==== Sys2Proof/Config.lean ====
section
/-! DEFINITION. The free values: what the manual leaves open and the part must still pick, when it
takes a step on an empty queue or when a reset abandons its window. None has a body, so no proof can learn its
value. -/

namespace Sys2Proof

/-- How long after its expiry a computation completes, in µs, at the given tick; `computationDue`
uses it within the bound of R27 (100 µs). Free value, assumption 13. -/
opaque Config.computationTime : Nat → Nat

/-- How long after its opening a window has done its work, in µs, at the given tick; `windowDue` uses
it within the bound of R165 (80 µs). Free value, assumption 13. -/
opaque Config.windowTime : Nat → Nat

/-- How many pieces of its work an open window has finished when a reset abandons it, at the given tick;
`windowWork` lists the pieces. Free value, assumption 40. -/
opaque Config.windowReached : Nat → Nat

/-- Whether the piece of work under way when a reset abandons an open window has written the given word of the
guarded region, at the given tick. Free value, assumption 40. -/
opaque Config.windowWrote : Nat → Nat → Bool

/-- The raw count the converter reads on an analog input AN0 to AN7 at the given tick. Free value,
assumption 14. -/
opaque Config.analogRaw : Nat → Nat → BitVec 12

/-- Which of several events that fall due together is taken first, at the given tick and for the given
number of them. Free value, assumption 4. -/
opaque Config.dueChoice : Nat → Nat → Nat

/-- Which channel takes an injected completion first, at the given tick (R122, R135). Free value,
assumption 18. -/
opaque Config.tiltTakesFirst : Nat → Bool

end Sys2Proof
end

