-- ==== Sys2Proof/Decode.lean ====
section
/-! DEFINITION. The decoder's entry point. No row of spec/opcode_table.json gives bits: the commands of
the block are events, not words, so no word spells one. -/

namespace Sys2Proof

/-- The command a word spells by the table's bits: none, for no row gives bits. -/
def decodeTableWord (_nbits _w : Nat) : Option Instr := none

end Sys2Proof
end

