-- ==== Sys2Proof/Machine/Arith.lean ====
section
/-! DEFINITION. The manual's arithmetic: rounded and truncated division, clamping and saturation
(R1, section 0.6.2), and the fixed-length tables' helpers. -/

namespace Sys2Proof.Machine

/-- Rounded division (R1): the nearest integer, halves away from zero. Every divisor the manual uses is
positive; a divisor of 0 gives 0 (assumption 21). -/
def rdiv (a : Int) (b : Nat) : Int :=
  let q : Nat := (2 * a.natAbs + b) / (2 * b)
  if a < 0 then -(q : Int) else (q : Int)

/-- Rounded division of natural numbers. -/
def rdivNat (a b : Nat) : Nat := (2 * a + b) / (2 * b)

/-- Clamped or saturated to lo..hi (section 0.6.2). -/
def clampInt (lo hi x : Int) : Int := if x < lo then lo else if hi < x then hi else x

/-- Clamped to lo..hi, natural numbers. -/
def clampNat (lo hi x : Nat) : Nat := if x < lo then lo else if hi < x then hi else x

/-- Clamped to the symmetric range ±m. -/
def clampSym (m : Nat) (x : Int) : Int := clampInt (-(m : Int)) (m : Int) x

/-- A count that rises by 1 and stops at its limit. -/
def bump (limit n : Nat) : Nat := if n < limit then n + 1 else limit

/-- The entry at index i of a fixed table, or d past its end. -/
def entry {α : Type} {n : Nat} (v : Vector α n) (i : Nat) (d : α) : α := v[i]?.getD d

/-- Apply f to every entry of a fixed table. -/
def tableMap {α β : Type} {n : Nat} (f : α → β) (v : Vector α n) : Vector β n :=
  ⟨⟨v.toList.map f⟩, by simp⟩

/-- The fixed table whose entry i is f i. -/
def tableOf {α : Type} {n : Nat} (f : Fin n → α) : Vector α n :=
  ⟨⟨List.ofFn f⟩, by simp⟩

/-- Each entry of the list is below the next. -/
def strictlyRising (le : List Int) : Bool :=
  match le with
  | [] => true
  | a :: l =>
    match l with
    | [] => true
    | b :: _ => decide (a < b) && strictlyRising l

end Sys2Proof.Machine
end

