-- ==== Sys2Proof/Machine/Records.lean ====
section
/-! DEFINITION. The records the ten blocks hold (Table 0-1), each with the value every reset leaves in
it, its timers stopped; `State.reset` starts the timers that run from the end of a reset. -/

namespace Sys2Proof.Machine

/-- A timer: stopped, or running with this many µs left. At 0 left it has run out and its expiry is due
(assumption 3). -/
abbrev Timer := Option Nat

/-! ### Sequencer and lock drive (01) -/

/-- The seven riding modes, codes 0 to 6 (Table 1-1, R2). -/
inductive Mode where
  | off | held | releasing | active | capturing | engaging | safe
deriving DecidableEq, Repr

/-- The lock drive states, codes 0 to 3 (Table 1-4, R6). -/
inductive LockDrive where
  | moving | engaged | released | conflict
deriving DecidableEq, Repr

/-- The causes of a mode change, codes 1 to 7 (Table 1-2, R3). -/
inductive ModeCause where
  | directive | speed | lockRequest | lockContact | timeout | fault | captureQualified
deriving DecidableEq, Repr

/-- One contact line: its level at the pin, its debounced level, and its 5 ms debounce (R5);
`true` is closed. -/
structure Contact where
  line : Bool
  level : Bool
  debounce : Timer
deriving DecidableEq, Repr

/-- The sequencer's state (Table 1-3, R4), the three contacts among it. -/
structure Sequencer where
  mode : Mode
  solenoid : Bool
  captureCount : Nat
  attemptCount : Nat
  hostLock : Bool
  lockLimit : Timer
  holdOff : Timer
  latchHolding : Bool
  lastSpeed : Nat
  lke : Contact
  lkr : Contact
  lrq : Contact
deriving DecidableEq, Repr

/-- A contact after a reset: open in debounced level, its line as it stands (R5). -/
def Contact.cleared (closed : Bool) : Contact := { line := closed, level := false, debounce := none }

/-- The sequencer after a reset, for the line levels that stand (R4). -/
def Sequencer.cleared (lke lkr lrq : Bool) : Sequencer :=
  { mode := .off, solenoid := false, captureCount := 0, attemptCount := 0, hostLock := false,
    lockLimit := none, holdOff := none, latchHolding := false, lastSpeed := 0,
    lke := .cleared lke, lkr := .cleared lkr, lrq := .cleared lrq }

/-! ### Lean-steer law (02) -/

/-- The results record (Table 2-5, R48). -/
structure Results where
  cycle : Word
  phi : Int
  phiDot : Int
  delta : Int
  tauR : Int
  v : Nat
  phiStar : Int
  aEff : Int
  gEff : Int
  tTilt : Int
  tSteer : Int
  iTilt : Int
  iSteer : Int
deriving DecidableEq, Repr

/-- A computation in progress: the results it will deliver and its age in µs (R27). -/
structure Computation where
  results : Results
  age : Nat
deriving DecidableEq, Repr

/-- The law's kept state (R50): the control cycle timer, the cycle number and whether a computation has
started since the reset (R28), the previous outputs and steering angle, the computation in progress
and the results record. -/
structure Law where
  timer : Timer
  cycle : Word
  started : Bool
  prevTilt : Int
  prevSteer : Int
  prevDelta : Int
  computing : Option Computation
  results : Results
deriving DecidableEq, Repr

/-- The results record after a reset (Table 2-5). -/
def Results.cleared : Results :=
  { cycle := 0, phi := 0, phiDot := 0, delta := 0, tauR := 0, v := 0, phiStar := 0, aEff := 0,
    gEff := 0, tTilt := 0, tSteer := 0, iTilt := 0, iSteer := 0 }

/-- The law after a reset (R50). -/
def Law.cleared : Law :=
  { timer := none, cycle := 0, started := false, prevTilt := 0, prevSteer := 0, prevDelta := 0,
    computing := none, results := .cleared }

/-! ### Calibration tables (03) -/

/-- A point of the authority schedule (Table 3-2, R54). -/
structure SchedulePoint where
  speed : Nat
  authority : Nat
  steerGain : Nat
  kds : Nat
deriving DecidableEq, Repr

/-- The tuning record (Table 3-3, R55). -/
structure Tuning where
  kp : Nat
  kd : Nat
  kdSafe : Nat
  tmaxTilt : Nat
  slewTilt : Nat
  tmaxSteer : Nat
  slewSteer : Nat
  ls : Nat
  vRel : Nat
  vCap : Nat
  captureBand : Nat
  captureRate : Nat
  degradeCap : Nat
  ktTilt : Nat
  ktSteer : Nat
  iLimitTilt : Nat
  iLimitSteer : Nat
  tripCurrent : Nat
  kpi : Nat
  ki : Nat
  supplyLow : Nat
  supplyHigh : Nat
  hotLimit : Nat
deriving DecidableEq, Repr

/-- A bank: the four tables of Table 3-1 (R51). -/
structure Bank where
  speedAxis : Vector Int 8
  steerAxis : Vector Int 9
  leanMap : Vector (Vector Int 9) 8
  schedule : Vector SchedulePoint 6
  tuning : Tuning
deriving DecidableEq, Repr

/-- The calibration tables block (Table 3-4). -/
structure Tables where
  activeBank : Bank
  pendingBank : Bank
  commitPending : Bool
  generation : Word
deriving DecidableEq, Repr

/-- The default tuning record (Table 3-3, column Default). -/
def Tuning.defaults : Tuning :=
  { kp := 400, kd := 40, kdSafe := 40, tmaxTilt := 2000, slewTilt := 100, tmaxSteer := 800,
    slewSteer := 50, ls := 4000, vRel := 150, vCap := 80, captureBand := 150, captureRate := 500,
    degradeCap := 500, ktTilt := 600, ktSteer := 600, iLimitTilt := 15000, iLimitSteer := 15000,
    tripCurrent := 25000, kpi := 800, ki := 40, supplyLow := 36000, supplyHigh := 60000,
    hotLimit := 1200 }

/-- A default schedule point: full authority, no steer gain, no damping (R56). -/
def SchedulePoint.atSpeed (speed : Nat) : SchedulePoint :=
  { speed := speed, authority := 1000, steerGain := 0, kds := 0 }

/-- The default bank (R56). -/
def Bank.defaults : Bank :=
  { speedAxis := #v[0, 100, 200, 400, 700, 1000, 1500, 2500]
    steerAxis := #v[-4000, -2000, -1000, -500, 0, 500, 1000, 2000, 4000]
    leanMap := Vector.replicate 8 (Vector.replicate 9 0)
    schedule := #v[.atSpeed 0, .atSpeed 100, .atSpeed 200, .atSpeed 400, .atSpeed 800, .atSpeed 2500]
    tuning := .defaults }

/-- The tables block after a reset (R56, Table 3-4). -/
def Tables.cleared : Tables :=
  { activeBank := .defaults, pendingBank := .defaults, commitPending := false, generation := 0 }

/-! ### Sensor bus master (04) -/

/-- The bus speeds (R68). -/
inductive BusSpeed where
  | mhz1 | khz400
deriving DecidableEq, Repr

/-- The four quantities, codes 0 to 3 (R70, R91). -/
inductive Quantity where
  | lean | rate | steer | torque
deriving DecidableEq, Repr

/-- An entry's status check (Table 4-1). -/
structure StatusCheck where
  offset : Nat
  mask : Byte
  expected : Byte
deriving DecidableEq, Repr

/-- A device entry's configuration (Table 4-1, R70). -/
structure DeviceConfig where
  enabled : Bool
  address : Nat
  regWidth : Nat
  regAddr : Nat
  readLength : Nat
  quantity : Quantity
  rawPos : Nat
  little : Bool
  gain : Int
  offset : Int
  status : Option StatusCheck
  maxStep : Nat
  staleLimit : Nat
deriving DecidableEq, Repr

/-- A device entry's run-time fields (R71); `age` is absent while "never", and `sampled` says that a
valid sample came since the last round expiry (R74). -/
structure DeviceRun where
  last : Int
  age : Option Nat
  misses : Nat
  joined : Bool
  sampled : Bool
deriving DecidableEq, Repr

/-- One entry of the device table. -/
structure Device where
  cfg : DeviceConfig
  run : DeviceRun
deriving DecidableEq, Repr

/-- The elements a transaction or a clear is built from (R69, R86): `receive ack` is a byte read and the
acknowledge the master answers it with, `clock` one clock pulse with SDA released. -/
inductive BusElement where
  | start
  | repeatedStart
  | stop
  | send (b : Byte)
  | receive (ack : Bool)
  | clock
deriving DecidableEq, Repr

/-- A transaction or a clear as it is put on the bus: its elements and the speed it runs at (R68, R69,
R86). -/
structure Transaction where
  speed : BusSpeed
  wire : List BusElement
deriving DecidableEq, Repr

/-- A clear at a speed: nine clock pulses, then a stop (R86). -/
def Transaction.clearAt (v : BusSpeed) : Transaction :=
  { speed := v, wire := List.replicate 9 .clock ++ [.stop] }

/-- What the bus is used for. A poll knows its entry, whether an expiry has ended its round (R76), and
whether SET_DEVICE has rewritten its entry (R72). -/
inductive BusActivity where
  | idle
  | poll (i : Fin 6) (oldRound : Bool) (discard : Bool) (t : Transaction)
  | passThrough (t : Transaction)
  | clear (t : Transaction)
deriving DecidableEq, Repr

/-- How far the current round's polls have come (R75, R81): no round since the reset, polls still to
make above the given index, or done. -/
inductive Round where
  | notStarted
  | polling (last : Option (Fin 6))
  | done
deriving DecidableEq, Repr

/-- A queued pass-through (R80). -/
structure PassThrough where
  tag : Byte
  address : Nat
  writes : List Byte
  readCount : Nat
deriving DecidableEq, Repr

/-- The sensor bus master. -/
structure Bus where
  speed : BusSpeed
  stuck : Bool
  timer : Timer
  devices : Vector Device 6
  activity : BusActivity
  round : Round
  passUsed : Bool
  queue : List PassThrough
deriving DecidableEq, Repr

/-- A device entry after a reset (R71). -/
def Device.cleared : Device :=
  { cfg := { enabled := false, address := 0, regWidth := 1, regAddr := 0, readLength := 1,
             quantity := .lean, rawPos := 0, little := false, gain := 0, offset := 0, status := none,
             maxStep := 0, staleLimit := 5 }
    run := { last := 0, age := none, misses := 0, joined := false, sampled := false } }

/-- The bus master after a reset (Table 4-4, R89). -/
def Bus.cleared : Bus :=
  { speed := .mhz1, stuck := false, timer := none, devices := Vector.replicate 6 .cleared,
    activity := .idle, round := .notStarted, passUsed := false, queue := [] }

/-! ### Source selector (05) -/

/-- The source codes 0..5, 6, 7 and 8 (Table 5-1, R91). -/
inductive Source where
  | device (i : Fin 6)
  | pot
  | derived
  | absent
deriving DecidableEq, Repr

/-- The quantity states, codes 0 to 3 (Table 5-3, R94). -/
inductive QuantityState where
  | primary | fallback | held | lost
deriving DecidableEq, Repr

/-- Which of a quantity's conditions the selector holds raised (Table 5-3, R98). -/
inductive Raised where
  | nothing | fallback | lost
deriving DecidableEq, Repr

/-- What the readiness test, the snapshot and the trace see of a quantity: the state and the source in use
that its most recent resolution left (R10, R94, R101). -/
structure QuantityView where
  state : QuantityState
  inUse : Source
deriving DecidableEq, Repr

/-- One quantity's sources and state (R91, Table 5-3); `shown` is what its most recent resolution left. -/
structure QuantityRecord where
  primary : Source
  fallback : Source
  state : QuantityState
  inUse : Source
  held : Int
  holdCount : Nat
  returnCount : Nat
  raised : Raised
  shown : QuantityView
deriving DecidableEq, Repr

/-- A potentiometer scaling (R91). -/
structure PotScale where
  centre : Nat
  gain : Int
deriving DecidableEq, Repr

/-- The source selector. -/
structure Selector where
  lean : QuantityRecord
  rate : QuantityRecord
  steer : QuantityRecord
  torque : QuantityRecord
  leanPot : PotScale
  steerPot : PotScale
  prevPhi : Int
deriving DecidableEq, Repr

/-- A quantity after a reset (Table 5-5). -/
def QuantityRecord.cleared : QuantityRecord :=
  { primary := .absent, fallback := .absent, state := .lost, inUse := .absent, held := 0,
    holdCount := 10, returnCount := 0, raised := .nothing,
    shown := { state := .lost, inUse := .absent } }

/-- The selector after a reset (R101, Table 5-5). -/
def Selector.cleared : Selector :=
  { lean := .cleared, rate := .cleared, steer := .cleared, torque := .cleared,
    leanPot := { centre := 2048, gain := 256 }, steerPot := { centre := 2048, gain := 256 },
    prevPhi := 0 }

/-! ### Wheel pulse tracker (06) -/

/-- The wheel states, codes 0 to 3 (Table 6-2). -/
inductive WheelState where
  | stopped | rolling | decaying | noisy
deriving DecidableEq, Repr

/-- What the snapshot and the trace see of a wheel: the state and the speed that the most recent
computation left (R117). -/
structure WheelView where
  state : WheelState
  speed : Nat
deriving DecidableEq, Repr

/-- One wheel's configuration and record (R103, Table 6-2); `shown` is what the most recent computation
left. -/
structure WheelRecord where
  teeth : Nat
  circumference : Nat
  arc : Nat
  state : WheelState
  reference : Option Stamp
  lastPeriod : Option Nat
  rejectRun : Nat
  acceptRun : Nat
  speed : Nat
  shown : WheelView
deriving DecidableEq, Repr

/-- The tracker: the timestamp counter, the three wheels, the held fused speed and the two conditions'
records (R102, R113, R114, R115). -/
structure Tracker where
  counter : Stamp
  frontLeft : WheelRecord
  frontRight : WheelRecord
  rear : WheelRecord
  heldSpeed : Nat
  holdCount : Nat
  degradedRaised : Bool
  lostRaised : Bool
deriving DecidableEq, Repr

/-- A wheel at STOPPED with speed 0, for a configuration (R116, R117). -/
def WheelRecord.stoppedWith (teeth circumference : Nat) : WheelRecord :=
  { teeth := teeth, circumference := circumference, arc := rdivNat (circumference * 1000) teeth,
    state := .stopped, reference := none, lastPeriod := none, rejectRun := 0, acceptRun := 0,
    speed := 0, shown := { state := .stopped, speed := 0 } }

/-- The tracker after a reset (Table 6-4, R117). -/
def Tracker.cleared : Tracker :=
  { counter := 0, frontLeft := .stoppedWith 48 1300, frontRight := .stoppedWith 48 1300,
    rear := .stoppedWith 48 1300, heldSpeed := 0, holdCount := 0, degradedRaised := false,
    lostRaised := false }

/-! ### Conversion unit (07) -/

/-- The channels of the normal chain, in its order (R119). -/
inductive NormalChannel where
  | an0 | an1 | an2 | an3 | an4 | an5
deriving DecidableEq, Repr

/-- A condition's raised (or hot) flag and its sample run (R125, R126, R127). -/
structure ThresholdRun where
  raised : Bool
  run : Nat
deriving DecidableEq, Repr

/-- The conversion unit: the eight results (Table 7-1), the normal chain's position and the conversion
in progress, the PWM centre timer, the injected chain in progress, and the threshold runs. -/
structure Converter where
  supply : Int
  tiltTemp : Int
  steerTemp : Int
  leanPot : Int
  steerPot : Int
  logic : Int
  tiltCurrent : Int
  steerCurrent : Int
  position : NormalChannel
  normal : Timer
  centre : Timer
  injected : Timer
  low : ThresholdRun
  high : ThresholdRun
  hotTilt : ThresholdRun
  hotSteer : ThresholdRun
deriving DecidableEq, Repr

/-- A run after a reset. -/
def ThresholdRun.cleared : ThresholdRun := { raised := false, run := 0 }

/-- The conversion unit after a reset (Table 7-3, R129). -/
def Converter.cleared : Converter :=
  { supply := 0, tiltTemp := 0, steerTemp := 0, leanPot := 0, steerPot := 0, logic := 0,
    tiltCurrent := 0, steerCurrent := 0, position := .an0, normal := none, centre := none,
    injected := none, low := .cleared, high := .cleared, hotTilt := .cleared, hotSteer := .cleared }

/-! ### Bridge drive channels and solenoid stage (08) -/

/-- The channel states (Table 8-1). -/
inductive ChannelState where
  | off | on | tripped
deriving DecidableEq, Repr

/-- A drive channel's record and the latest wanted state it has been given (Table 8-1, R133). -/
structure Channel where
  state : ChannelState
  wanted : Bool
  setpoint : Int
  integrator : Int
  duty : Int
  applied : Int
  overRun : Nat
deriving DecidableEq, Repr

/-- The solenoid stage states (R142). -/
inductive SolenoidStage where
  | off | pullIn | hold
deriving DecidableEq, Repr

/-- The drive block: both channels, the PWM period timer, and the solenoid stage with its pull-in timer;
`holdDriven` says that a period has started since HOLD was entered (R142). -/
structure Drive where
  tilt : Channel
  steer : Channel
  period : Timer
  stage : SolenoidStage
  pullIn : Timer
  holdDriven : Bool
deriving DecidableEq, Repr

/-- A channel after a reset (Table 8-4). -/
def Channel.cleared : Channel :=
  { state := .off, wanted := false, setpoint := 0, integrator := 0, duty := 0, applied := 0,
    overRun := 0 }

/-- The drive block after a reset (Table 8-4, R143). -/
def Drive.cleared : Drive :=
  { tilt := .cleared, steer := .cleared, period := none, stage := .off, pullIn := none,
    holdDriven := false }

/-! ### Fault monitor (09) -/

/-- The reactions, codes 0 to 2 (R145). -/
inductive Reaction where
  | report | degrade | safe
deriving DecidableEq, Repr

/-- A kind's state, codes 0 to 2 (Table 9-2). -/
inductive KindState where
  | clear | active | latched
deriving DecidableEq, Repr

/-- A kind's policy and record (Table 9-2, R146). -/
structure FaultRecord where
  policyReaction : Reaction
  policyTimeout : Nat
  state : KindState
  reaction : Reaction
  timeout : Nat
  acknowledged : Bool
  escalated : Bool
  ackTimer : Timer
  count : Nat
  lastInstance : Nat
deriving DecidableEq, Repr

/-- The retained last-safe record with the safe-entry count (R23, R160); `kind` is the causing kind's
code, 0 when none. -/
structure Retained where
  kind : Nat
  lastInstance : Nat
  modeBefore : Mode
  phi : Int
  v : Nat
  cycle : Word
  count : Nat
deriving DecidableEq, Repr

/-- The fault monitor: the table in code order, the FLTN minimum-time timer, the retained record. -/
structure FaultMonitor where
  table : Vector FaultRecord 20
  minTimer : Timer
  retained : Retained
deriving DecidableEq, Repr

/-- A kind's record at its default reaction (Table 9-3). -/
def FaultRecord.cleared (r : Reaction) : FaultRecord :=
  { policyReaction := r, policyTimeout := 0, state := .clear, reaction := r, timeout := 0,
    acknowledged := false, escalated := false, ackTimer := none, count := 0, lastInstance := 0 }

/-- The table after a reset: each kind at the default reaction of Table 9-1, in code order (R162). -/
def FaultMonitor.clearedTable : Vector FaultRecord 20 :=
  #v[.cleared .degrade, .cleared .safe, .cleared .degrade, .cleared .safe, .cleared .report,
     .cleared .degrade, .cleared .degrade, .cleared .report, .cleared .safe, .cleared .report,
     .cleared .safe, .cleared .safe, .cleared .safe, .cleared .safe, .cleared .degrade,
     .cleared .degrade, .cleared .degrade, .cleared .degrade, .cleared .degrade, .cleared .report]

/-- The retained record at power-on: every field 0 (R161). -/
def Retained.zero : Retained :=
  { kind := 0, lastInstance := 0, modeBefore := .off, phi := 0, v := 0, cycle := 0, count := 0 }

/-- The fault monitor after a reset, with the retained record it keeps (R161, R162). -/
def FaultMonitor.cleared (kept : Retained) : FaultMonitor :=
  { table := FaultMonitor.clearedTable, minTimer := none, retained := kept }

/-! ### Exchange port (10, 11) -/

/-- The window states (R165). -/
inductive Window where
  | closed | deferred | opened
deriving DecidableEq, Repr

/-- The port modes, bits 0 and 1 of code (R179). -/
inductive PortMode where
  | wait | noWait
deriving DecidableEq, Repr

/-- The seven causes of XCAUSE (R180). -/
inductive Cause where
  | resetDone | directivesTaken | eventPublished | tracePublished | faultLineAsserted
  | windowCollision | holdExpired
deriving DecidableEq, Repr

/-- The outcome codes (Table 11-6, R188). -/
inductive Answer where
  | accepted | acceptedClamped | done | badKind | badLength | placement | mode | notReady
  | pendingCommit | noPending | invalidTables | faultsPresent | notStopped | queueFull
  | nackAddress | nackData | busTimeout
deriving DecidableEq, Repr

/-- The bodies of the six report kinds (Table 11-8, R191). -/
inductive ReportBody where
  | directiveDone (tag kind : Byte) (outcome : Answer) (detail : Nat) (data : List Byte)
  | modeChanged (before after : Mode) (cause : ModeCause)
  | faultChanged (kind : FaultKind) (lastInstance : Nat) (state : KindState) (reaction : Reaction)
      (count : Nat)
  | sourceChanged (quantity : Quantity) (before after : Source)
  | tablesSwapped (generation : Word)
  | trace (values : List Word)
deriving DecidableEq, Repr

/-- A staged report: its body with the aux and cycle number it took when it was staged (R189, R190). -/
structure Report where
  aux : Byte
  cycle : Word
  body : ReportBody
deriving DecidableEq, Repr

/-- The destinations of a report kind, codes 0 to 2 (R176). -/
inductive Destination where
  | event | trace | discard
deriving DecidableEq, Repr

/-- The report map (R176). -/
structure ReportMap where
  directiveDone : Destination
  modeChanged : Destination
  faultChanged : Destination
  sourceChanged : Destination
  tablesSwapped : Destination
  trace : Destination
deriving DecidableEq, Repr

/-- The two report rings (R173, R174). -/
inductive RingId where
  | event | trace
deriving DecidableEq, Repr

/-- The port's own state of a report ring: its counts, write position and offer number, its staging
queue oldest first, and the footprints of the published unreleased frames oldest first (R173, R174,
R175, R190). -/
structure Ring where
  publish : Word
  released : Word
  dropped : Nat
  writePos : Nat
  offer : Byte
  queue : List Report
  footprints : List Nat
deriving DecidableEq, Repr

/-- The trace selection (R177). -/
structure TraceSelection where
  codes : List Nat
  decimation : Nat
  counter : Nat
deriving DecidableEq, Repr

/-- A guarded access: its address and what it does. -/
structure Access where
  addr : Word
  op : AccessOp
deriving DecidableEq, Repr

/-- The exchange memory as a list of (address, byte), addresses strictly rising and no byte 0; an
unlisted byte reads 0, which is what a power-on reset leaves (R181). -/
abbrev Memory := List Host.Cell

/-- The exchange port. -/
structure Port where
  mem : Memory
  timer : Timer
  window : Window
  windowAge : Nat
  opensAtCompletion : Bool
  holdArmed : Bool
  deferral : Timer
  inProgress : Option Access
  held : List Access
  adData : Word
  cause : BitVec 7
  enable : BitVec 7
  mode : PortMode
  take : Word
  expected : Nat
  event : Ring
  trace : Ring
  map : ReportMap
  selection : TraceSelection
  snapshotNumber : Word
deriving DecidableEq, Repr

/-- A ring after a reset (R181). -/
def Ring.cleared : Ring :=
  { publish := 0, released := 0, dropped := 0, writePos := 0, offer := 0, queue := [],
    footprints := [] }

/-- The report map after a reset (R176). -/
def ReportMap.defaults : ReportMap :=
  { directiveDone := .event, modeChanged := .event, faultChanged := .event, sourceChanged := .event,
    tablesSwapped := .event, trace := .trace }

/-- The port while a reset lasts, for what the reset keeps: the memory, the data last driven, the
enables and the port mode (R181). No cause is set until the reset ends (R164). -/
def Port.cleared (mem : Memory) (adData : Word) (enable : BitVec 7) (mode : PortMode) : Port :=
  { mem := mem, timer := none, window := .closed, windowAge := 0, opensAtCompletion := false,
    holdArmed := false, deferral := none, inProgress := none, held := [], adData := adData,
    cause := 0, enable := enable, mode := mode, take := 0, expected := 0, event := .cleared,
    trace := .cleared, map := .defaults,
    selection := { codes := [], decimation := 0, counter := 0 }, snapshotNumber := 0 }

/-- Where the part stands in a reset (R164): running, or in one of the three resets; a soft reset has
this many µs left. -/
inductive ResetPhase where
  | running
  | powerOn
  | pin
  | soft (left : Nat)
deriving DecidableEq, Repr

end Sys2Proof.Machine
end

