-- ==== Sys2Proof/Machine/State.lean ====
section
/-! DEFINITION. The state of the part, the reasons a step can stop, and the state after reset. -/

namespace Sys2Proof.Machine

/-- The whole state: the commands waiting, the reset phase, the level of RSTN, the model's own count of
microseconds (for the free values), and the ten blocks of Table 0-1. -/
structure State where
  pending : List Instr
  phase : ResetPhase
  rstn : Bool
  ticks : Nat
  seq : Sequencer
  law : Law
  tables : Tables
  bus : Bus
  sel : Selector
  wheels : Tracker
  conv : Converter
  drive : Drive
  faults : FaultMonitor
  port : Port
deriving DecidableEq, Repr

/-- The reasons a command could stop the part with a fault: none. Every fault of the manual is a fault
kind, an outcome code or a cause, held in State (Chapter 9, R180, R188); nobody raises a `Fault`, which
is safe. -/
inductive Fault where
deriving DecidableEq, Repr

/-- The reasons a command is refused. -/
inductive Refusal where
  /-- Raised by `exec` for a command without a meaning yet; no command is left so. Safe: the model stops
  where the part goes on. -/
  | notModelled (mnemonic : String)
deriving DecidableEq, Repr

/-- The machine right after a power-on reset has ended, with RSTN high, the contact lines open and
nothing waiting (R164, R181 and the reset rule of each chapter; assumption 1). The timers that run from
the end of a reset have started (R27, R74, R119, R120, R132, R165), XCAUSE holds RESET_DONE alone, and
the bus master is at its one clear (R89). -/
def State.reset : State :=
  { pending := []
    phase := .running
    rstn := true
    ticks := 0
    seq := .cleared false false false
    law := { Law.cleared with timer := some 2000 }
    tables := .cleared
    bus := { Bus.cleared with timer := some 2000, activity := .clear (.clearAt .mhz1) }
    sel := .cleared
    wheels := .cleared
    conv := { Converter.cleared with normal := some 10, centre := some 25 }
    drive := { Drive.cleared with period := some 50 }
    faults := .cleared .zero
    port := { Port.cleared [] 0 0 .wait with timer := some 1000, cause := 1 } }

end Sys2Proof.Machine
end

