-- ==== Sys2Proof/Machine/Operands.lean ====
section
/-! DEFINITION. The operand forms: bytes and words of the exchange memory (R182), the fields of a
directive body (R186), the codes of every named value, and the byte layout of a report frame (R189,
R191). -/

namespace Sys2Proof.Machine

/-! ### Bytes and words (R182) -/

/-- The low byte of a word, which lies at the lower address. -/
def lowByte (w : Word) : Byte := w.setWidth 8

/-- The high byte of a word. -/
def highByte (w : Word) : Byte := (w >>> 8).setWidth 8

/-- The word of a low and a high byte. -/
def joinBytes (low high : Byte) : Word := (high.setWidth 16 <<< 8) ||| low.setWidth 16

/-- A word as its two bytes, low first. -/
def wordBytes (w : Word) : List Byte := [lowByte w, highByte w]

/-- A number as a word: two's complement, modulo 65536. -/
def wordOfInt (x : Int) : Word := BitVec.ofInt 16 x

/-- A number as a byte, modulo 256. -/
def byteOfNat (n : Nat) : Byte := BitVec.ofNat 8 n

/-! ### Fields of a directive body (R186), by offset in bytes -/

/-- The byte field at an offset. -/
def byteAt (body : List Byte) (i : Nat) : Nat := (body.getD i 0).toNat

/-- The word field at an offset. -/
def wordAt (body : List Byte) (i : Nat) : Word := joinBytes (body.getD i 0) (body.getD (i + 1) 0)

/-- The unsigned word field at an offset. -/
def unsignedAt (body : List Byte) (i : Nat) : Nat := (wordAt body i).toNat

/-- The signed word field at an offset. -/
def signedAt (body : List Byte) (i : Nat) : Int := (wordAt body i).toInt

/-- The yes-or-no field at an offset: "no" when it holds 0. -/
def flagAt (body : List Byte) (i : Nat) : Bool := byteAt body i != 0

/-! ### Codes -/

/-- Mode codes (Table 1-1). -/
def Mode.code : Mode → Nat
  | .off => 0 | .held => 1 | .releasing => 2 | .active => 3
  | .capturing => 4 | .engaging => 5 | .safe => 6

/-- Lock drive codes (Table 1-4). -/
def LockDrive.code : LockDrive → Nat
  | .moving => 0 | .engaged => 1 | .released => 2 | .conflict => 3

/-- Mode change cause codes (Table 1-2). -/
def ModeCause.code : ModeCause → Nat
  | .directive => 1 | .speed => 2 | .lockRequest => 3 | .lockContact => 4
  | .timeout => 5 | .fault => 6 | .captureQualified => 7

/-- Quantity codes (R91). -/
def Quantity.code : Quantity → Nat
  | .lean => 0 | .rate => 1 | .steer => 2 | .torque => 3

/-- A quantity code as SET_DEVICE takes it: above 3 becomes 3 (R72). -/
def Quantity.ofCode (n : Nat) : Quantity :=
  match n with
  | 0 => .lean | 1 => .rate | 2 => .steer | _ => .torque

/-- Source codes (Table 5-1). -/
def Source.code : Source → Nat
  | .device i => i.val | .pot => 6 | .derived => 7 | .absent => 8

/-- The source of a code; a code above 8 becomes NONE (R100). -/
def Source.ofCode (n : Nat) : Source :=
  if h : n < 6 then .device ⟨n, h⟩ else if n = 6 then .pot else if n = 7 then .derived else .absent

/-- Quantity state codes (Table 5-3). -/
def QuantityState.code : QuantityState → Nat
  | .primary => 0 | .fallback => 1 | .held => 2 | .lost => 3

/-- Wheel state codes (Table 6-2). -/
def WheelState.code : WheelState → Nat
  | .stopped => 0 | .rolling => 1 | .decaying => 2 | .noisy => 3

/-- Reaction codes (R145). -/
def Reaction.code : Reaction → Nat
  | .report => 0 | .degrade => 1 | .safe => 2

/-- The reaction of a code; a code above 2 is taken as SAFE (R155). -/
def Reaction.ofCode (n : Nat) : Reaction :=
  match n with
  | 0 => .report | 1 => .degrade | _ => .safe

/-- Kind state codes (Table 9-2). -/
def KindState.code : KindState → Nat
  | .clear => 0 | .active => 1 | .latched => 2

/-- Outcome codes (Table 11-6). -/
def Answer.code : Answer → Nat
  | .accepted => 0 | .acceptedClamped => 1 | .done => 2 | .badKind => 16 | .badLength => 17
  | .placement => 18 | .mode => 19 | .notReady => 20 | .pendingCommit => 21 | .noPending => 22
  | .invalidTables => 23 | .faultsPresent => 24 | .notStopped => 25 | .queueFull => 26
  | .nackAddress => 32 | .nackData => 33 | .busTimeout => 34

/-- A destination of a code; a code above 2 becomes DISCARD (R176). -/
def Destination.ofCode (n : Nat) : Destination :=
  match n with
  | 0 => .event | 1 => .trace | _ => .discard

end Sys2Proof.Machine

namespace Sys2Proof

/-- Wheel codes (R102). -/
def Wheel.code : Wheel → Nat
  | .frontLeft => 0 | .frontRight => 1 | .rear => 2

/-- The instance a bridge is (R127). -/
def Bridge.code : Bridge → Nat
  | .tilt => 0 | .steer => 1

/-- The over-current kind of a channel (R133). -/
def Bridge.overcurrent : Bridge → FaultKind
  | .tilt => .tiltOvercurrent | .steer => .steerOvercurrent

/-- A kind's place in the table, its code less 1 (Table 9-1). -/
def FaultKind.idx : FaultKind → Fin 20
  | .leanFallback => 0 | .leanLost => 1 | .rateFallback => 2 | .rateLost => 3
  | .steerFallback => 4 | .steerLost => 5 | .torqueLost => 6 | .wheelDegraded => 7
  | .speedLost => 8 | .lockReleaseTimeout => 9 | .lockEngageFailed => 10
  | .lockPositionLost => 11 | .lockContactsConflict => 12 | .tiltOvercurrent => 13
  | .steerOvercurrent => 14 | .supplyLow => 15 | .supplyHigh => 16 | .bridgeHot => 17
  | .sensorBusStuck => 18 | .directiveOverrun => 19

/-- A kind's code, 1 to 20 (Table 9-1). -/
def FaultKind.code (k : FaultKind) : Nat := k.idx.val + 1

/-- The twenty kinds in code order. -/
def FaultKind.all : List FaultKind :=
  [.leanFallback, .leanLost, .rateFallback, .rateLost, .steerFallback,
   .steerLost, .torqueLost, .wheelDegraded, .speedLost, .lockReleaseTimeout,
   .lockEngageFailed, .lockPositionLost, .lockContactsConflict, .tiltOvercurrent, .steerOvercurrent,
   .supplyLow, .supplyHigh, .bridgeHot, .sensorBusStuck, .directiveOverrun]

/-- The kind of a code; a code of 0 or above 20 names none (R153). -/
def FaultKind.ofCode (n : Nat) : Option FaultKind :=
  match n with
  | 0 => none
  | m + 1 => FaultKind.all[m]?

/-- A kind's floor reaction (Table 9-1). -/
def FaultKind.floor : FaultKind → Machine.Reaction
  | .leanLost | .rateLost | .speedLost | .lockEngageFailed | .lockPositionLost
  | .lockContactsConflict | .tiltOvercurrent => .safe
  | .leanFallback | .rateFallback | .steerFallback | .steerLost | .torqueLost | .wheelDegraded
  | .lockReleaseTimeout | .steerOvercurrent | .supplyLow | .supplyHigh | .bridgeHot
  | .sensorBusStuck | .directiveOverrun => .report

/-- Whether a kind is momentary: codes 10, 11, 14, 15 and 20 (Table 9-1, R148). -/
def FaultKind.momentary : FaultKind → Bool
  | .lockReleaseTimeout | .lockEngageFailed | .tiltOvercurrent | .steerOvercurrent
  | .directiveOverrun => true
  | .leanFallback | .leanLost | .rateFallback | .rateLost | .steerFallback | .steerLost
  | .torqueLost | .wheelDegraded | .speedLost | .lockPositionLost | .lockContactsConflict
  | .supplyLow | .supplyHigh | .bridgeHot | .sensorBusStuck => false

end Sys2Proof

namespace Sys2Proof.Machine

/-! ### Report frames (R189, R191) -/

/-- A report's kind, 1 to 6 (Table 11-8). -/
def ReportBody.kind : ReportBody → Nat
  | .directiveDone _ _ _ _ _ => 1
  | .modeChanged _ _ _ => 2
  | .faultChanged _ _ _ _ _ => 3
  | .sourceChanged _ _ _ => 4
  | .tablesSwapped _ => 5
  | .trace _ => 6

/-- A report body's bytes (Table 11-8). -/
def ReportBody.bytes : ReportBody → List Byte
  | .directiveDone tag kind outcome detail data =>
      [tag, kind, byteOfNat outcome.code, byteOfNat detail] ++ data
  | .modeChanged before after cause =>
      [byteOfNat before.code, byteOfNat after.code, byteOfNat cause.code]
  | .faultChanged kind lastInstance state reaction count =>
      [byteOfNat kind.code, byteOfNat lastInstance, byteOfNat state.code, byteOfNat reaction.code,
       byteOfNat count]
  | .sourceChanged quantity before after =>
      [byteOfNat quantity.code, byteOfNat before.code, byteOfNat after.code]
  | .tablesSwapped generation => wordBytes generation
  | .trace values => [byteOfNat values.length, 0] ++ values.flatMap wordBytes

/-- A report's frame: the header of R189, then the body. -/
def Report.frame (r : Report) : List Byte :=
  [byteOfNat r.body.kind, r.aux] ++ wordBytes r.cycle ++ r.body.bytes

/-- A frame's footprint: its length rounded up to the next even number (R175, R191). -/
def footprint (length : Nat) : Nat := length + length % 2

/-- The destination the report map gives a body's kind (R176). -/
def ReportMap.destination (m : ReportMap) : ReportBody → Destination
  | .directiveDone _ _ _ _ _ => m.directiveDone
  | .modeChanged _ _ _ => m.modeChanged
  | .faultChanged _ _ _ _ _ => m.faultChanged
  | .sourceChanged _ _ _ => m.sourceChanged
  | .tablesSwapped _ => m.tablesSwapped
  | .trace _ => m.trace

/-! ### Places in the exchange memory (Table 11-1) -/

/-- The first byte of a ring's area. -/
def RingId.areaBase : RingId → Nat
  | .event => 0x0A00 | .trace => 0x0E00

/-- The size of a ring's area. -/
def RingId.areaSize : RingId → Nat
  | .event => 1024 | .trace => 2048

/-- The first byte of a ring's frame table. -/
def RingId.tableBase : RingId → Nat
  | .event => 0x0140 | .trace => 0x0180

/-- How many reports a ring's staging queue holds (R174). -/
def RingId.room : RingId → Nat
  | .event => 16 | .trace => 8

/-- The four parts of the map a word access can reach (Table 10-1), with the byte address of the word. -/
inductive Place where
  | guarded (a : Nat)
  | scratch (a : Nat)
  | xstat
  | xstatHold
  | xcause
  | xcauseEn
  | xctrl
  | unused
deriving DecidableEq, Repr

/-- The word an address reaches: bits 1 to 12 select it, the others are ignored (R163). -/
def wordAddress (addr : Word) : Nat := addr.toNat % 8192 / 2 * 2

/-- The part of the map an address reaches (Table 10-1, Table 11-13). -/
def placeOf (addr : Word) : Place :=
  let a := wordAddress addr
  if a < 0x1600 then .guarded a
  else if a < 0x1FF0 then .scratch a
  else if a = 0x1FF0 then .xstat
  else if a = 0x1FF2 then .xstatHold
  else if a = 0x1FF4 then .xcause
  else if a = 0x1FF6 then .xcauseEn
  else if a = 0x1FF8 then .xctrl
  else .unused

end Sys2Proof.Machine
end

