-- ==== Sys2Proof/Machine/Flags.lean ====
section
/-! DEFINITION. Every value the part forms from what it holds: the lock drive state, the summary flags
of the fault table, FLTN, IRQN, XSTAT, the sensor sets, and the levels of the output lines. -/

namespace Sys2Proof.Machine

/-! ### Lock drive and lock request -/

/-- The lock drive state of two debounced levels (Table 1-4, R6). -/
def lockDriveOf (lkeClosed lkrClosed : Bool) : LockDrive :=
  match lkeClosed, lkrClosed with
  | false, false => .moving
  | true, false => .engaged
  | false, true => .released
  | true, true => .conflict

/-- The lock drive state (R6). -/
def Sequencer.lockDrive (q : Sequencer) : LockDrive := lockDriveOf q.lke.level q.lkr.level

/-- Lock requested: LRQ's debounced level is closed or the host lock flag is set (R9). -/
def Sequencer.lockRequested (q : Sequencer) : Bool := q.lrq.level || q.hostLock

/-! ### Fault table (R146, R151, R156) -/

/-- A kind's effective reaction: SAFE while escalated, else the reaction in force (R146). -/
def FaultRecord.effective (r : FaultRecord) : Reaction := if r.escalated then .safe else r.reaction

/-- A kind's record in the table. -/
def FaultMonitor.get (m : FaultMonitor) (k : FaultKind) : FaultRecord := m.table[k.idx]

/-- The table with one kind's record replaced. -/
def FaultMonitor.put (m : FaultMonitor) (k : FaultKind) (r : FaultRecord) : FaultMonitor :=
  { m with table := m.table.set k.idx.val r k.idx.isLt }

/-- The kind is not CLEAR and its effective reaction is DEGRADE. -/
def FaultRecord.degrades (r : FaultRecord) : Bool := r.state != .clear && r.effective == .degrade

/-- The kind is ACTIVE or LATCHED and its effective reaction is SAFE. -/
def FaultRecord.safeClass (r : FaultRecord) : Bool := r.state != .clear && r.effective == .safe

/-- Degrade in force (R151). -/
def FaultMonitor.degradeInForce (m : FaultMonitor) : Bool := m.table.toList.any FaultRecord.degrades

/-- SAFE-class fault present (R151). -/
def FaultMonitor.safeClassPresent (m : FaultMonitor) : Bool := m.table.toList.any FaultRecord.safeClass

/-- The lowest code among the SAFE-class kinds, 0 when there is none (R25, Table 11-6). -/
def FaultMonitor.lowestSafeClass (m : FaultMonitor) : Nat :=
  match FaultKind.all.find? fun k => (m.get k).safeClass with
  | some k => k.code
  | none => 0

/-- The FLTN state: some kind that is not CLEAR has effective reaction DEGRADE or SAFE, or the
minimum-time timer is running (R156; assumption 17). It follows these two conditions at every moment, so a
LATCHED DEGRADE kind raised again under a policy lowered to REPORT, with the timer stopped, releases the line
at that raise (DEDUCED, assumption 37). -/
def FaultMonitor.fltnActive (m : FaultMonitor) : Bool :=
  m.degradeInForce || m.safeClassPresent || m.minTimer.isSome

/-- How many kinds stand in a state (Table 11-9). -/
def FaultMonitor.countIn (m : FaultMonitor) (st : KindState) : Nat :=
  (m.table.toList.filter fun r => r.state == st).length

/-! ### Sensor sets (R71) -/

/-- The entry is in the present set. -/
def Device.present (d : Device) : Bool := d.cfg.enabled

/-- The entry is in the joined set. -/
def Device.inJoinedSet (d : Device) : Bool := d.cfg.enabled && d.run.joined

/-- A set of indices as a byte, bit n for entry n (Table 11-10). -/
def setByte (l : List Bool) : Nat :=
  match l with
  | [] => 0
  | b :: l => (if b then 1 else 0) + 2 * setByte l

/-- The present set as a byte. -/
def Bus.presentByte (b : Bus) : Nat := setByte (b.devices.toList.map Device.present)

/-- The joined set as a byte. -/
def Bus.joinedByte (b : Bus) : Nat := setByte (b.devices.toList.map Device.inJoinedSet)

/-- The present set is non-empty and the joined set equals it (readiness check 1, R10). -/
def Bus.allJoined (b : Bus) : Bool :=
  b.devices.toList.any Device.present && b.devices.toList.all fun d => d.present == d.inJoinedSet

/-! ### Registers and lines of the port (R166, R179, R180) -/

/-- IRQN is low: some cause is set with its enable set (R180). -/
def Port.irqLow (p : Port) : Bool := p.cause &&& p.enable != 0

/-- RDY is deasserted: an access is held (R166). -/
def Port.rdyDeasserted (p : Port) : Bool := !p.held.isEmpty

/-- A bit as a number. -/
def bit (b : Bool) : Nat := if b then 1 else 0

/-- The XSTAT word (Tables 10-5 and 11-13). -/
def State.xstat (s : State) : Word :=
  BitVec.ofNat 16 (bit (s.port.window == .opened) + 2 * bit s.port.holdArmed + 4 * s.seq.mode.code
    + 32 * s.seq.lockDrive.code + 128 * bit s.faults.fltnActive + 256 * bit s.port.irqLow
    + 512 * bit s.tables.commitPending)

/-- The XCTRL word a read returns: the port mode, the soft-reset bit 0 (R179). -/
def Port.xctrl (p : Port) : Word :=
  match p.mode with
  | .wait => 0
  | .noWait => 1

/-! ### Output lines of the drive block (R131, R132, R142) -/

/-- A bridge's enable, TEN or SEN: high while its channel is ON (Table 8-2). -/
def Channel.enableHigh (c : Channel) : Bool := c.state == .on

/-- The A line, TLA or STA, at a time in ns from the period's start: high for d × 50 ns centred on
25 000 ns while the applied duty d is above 0 (R132). -/
def Channel.lineA (c : Channel) (ns : Int) : Bool :=
  c.enableHigh && decide (0 < c.applied) && decide (2 * |ns - 25000| < c.applied * 50)

/-- The B line, TLB or STB: as the A line, for |d|, while the applied duty is below 0 (R132). -/
def Channel.lineB (c : Channel) (ns : Int) : Bool :=
  c.enableHigh && decide (c.applied < 0) && decide (2 * |ns - 25000| < -c.applied * 50)

/-- The line LKS at a time in ns from the period's start (R142): low in OFF, high in PULL-IN, and in
HOLD high for 20 µs centred on the period centre once a period has started in it, high until then. -/
def Drive.lks (d : Drive) (ns : Int) : Bool :=
  match d.stage with
  | .off => false
  | .pullIn => true
  | .hold => !d.holdDriven || decide (2 * |ns - 25000| < 20000)

end Sys2Proof.Machine
end

