-- ==== Sys2Proof/Machine/Ops.lean ====
section
/-! DEFINITION. The shared operations of the part: the exchange memory, the causes, staging a report,
mode changes with the solenoid and the wanted channel states, the table swap, and the fault monitor's
raise, end, escalation and clear with the SAFE request they bring. -/

namespace Sys2Proof.Machine

/-! ### The exchange memory (R163, R182) -/

/-- The byte at an address; an unlisted byte reads 0. -/
def Memory.read (m : Memory) (a : Nat) : Byte :=
  match m with
  | [] => 0
  | (c, x) :: m => if c = a then x else Memory.read m a

/-- Store a byte, keeping the canonical form. -/
def Memory.write (m : Memory) (a : Nat) (b : Byte) : Memory :=
  match m with
  | [] => if b = 0 then [] else [(a, b)]
  | (c, x) :: m =>
    if a < c then (if b = 0 then (c, x) :: m else (a, b) :: (c, x) :: m)
    else if a = c then (if b = 0 then m else (a, b) :: m)
    else (c, x) :: Memory.write m a b

/-- Store bytes at successive addresses, each address given by its place in the list. -/
def Memory.writeFrom (m : Memory) (place : Nat → Nat) (i : Nat) (bytes : List Byte) : Memory :=
  match bytes with
  | [] => m
  | b :: bs => Memory.writeFrom (m.write (place i) b) place (i + 1) bs

/-- Store bytes from an address up. -/
def Memory.writeBytes (m : Memory) (a : Nat) (bytes : List Byte) : Memory :=
  m.writeFrom (fun i => a + i) 0 bytes

/-- Store bytes in an area from an offset, wrapping from its last byte to its first (R175). -/
def Memory.writeRing (m : Memory) (base size offset : Nat) (bytes : List Byte) : Memory :=
  m.writeFrom (fun i => base + (offset + i) % size) 0 bytes

/-- The word at a byte address. -/
def Memory.readWord (m : Memory) (a : Nat) : Word := joinBytes (m.read a) (m.read (a + 1))

/-- Store a word at a byte address, low byte first. -/
def Memory.writeWord (m : Memory) (a : Nat) (w : Word) : Memory := m.writeBytes a (wordBytes w)

/-- The bytes of an area from an offset, wrapping at its end (R171). -/
def Memory.readRing (m : Memory) (base size offset : Nat) (n : Nat) : List Byte :=
  (List.range n).map fun i => m.read (base + (offset + i) % size)

/-- The memory with the addresses lo up to but not including hi zeroed (R181). -/
def Memory.zeroed (m : Memory) (lo hi : Nat) : Memory :=
  m.filter fun c => !(decide (lo ≤ c.1) && decide (c.1 < hi))

/-- The memory with the words of the guarded region that `chosen` names, each by half its address, as they are
in `m'`. -/
def Memory.mixed (chosen : Nat → Bool) (m' m : Memory) : Memory :=
  (List.range 0x0B00).foldl
    (fun k i => if chosen i then k.writeWord (2 * i) (m'.readWord (2 * i)) else k) m

/-- Every listed address is above `a`, addresses rise strictly, and no listed byte is 0. -/
def Memory.wfAbove (a : Nat) (m : Memory) : Bool :=
  match m with
  | [] => true
  | (c, x) :: m => decide (a ≤ c) && x != 0 && Memory.wfAbove (c + 1) m

/-- The canonical form: addresses strictly rising, no byte 0. -/
def Memory.wf (m : Memory) : Bool := Memory.wfAbove 0 m

/-! ### Causes (R180) -/

/-- A cause's bit in XCAUSE and XCAUSE_EN (Table 11-13). -/
def Cause.mask : Cause → BitVec 7
  | .resetDone => 1 | .directivesTaken => 2 | .eventPublished => 4 | .tracePublished => 8
  | .faultLineAsserted => 16 | .windowCollision => 32 | .holdExpired => 64

/-- Set a cause. -/
def setCause (c : Cause) (s : State) : State :=
  { s with port := { s.port with cause := s.port.cause ||| c.mask } }

/-! ### Staging (R28, R174, R190) -/

/-- Offer a report to a ring's staging queue: it takes the offer number as its aux, and joins the tail
or, with the queue full, is dropped and counted. -/
def Ring.offerReport (room : Nat) (cycle : Word) (b : ReportBody) (r : Ring) : Ring :=
  if r.queue.length < room then
    { r with offer := r.offer + 1, queue := r.queue ++ [{ aux := r.offer, cycle := cycle, body := b }] }
  else { r with offer := r.offer + 1, dropped := bump 65535 r.dropped }

/-- The port's ring of an id. -/
def Port.ring (p : Port) : RingId → Ring
  | .event => p.event
  | .trace => p.trace

/-- The port with one ring replaced. -/
def Port.setRing (p : Port) (id : RingId) (r : Ring) : Port :=
  match id with
  | .event => { p with event := r }
  | .trace => { p with trace := r }

/-- Stage a report in the ring the report map gives its kind; a kind mapped to DISCARD is not offered. -/
def stage (b : ReportBody) (s : State) : State :=
  match s.port.map.destination b with
  | .event => { s with port := s.port.setRing .event (s.port.event.offerReport 16 s.law.cycle b) }
  | .trace => { s with port := s.port.setRing .trace (s.port.trace.offerReport 8 s.law.cycle b) }
  | .discard => s

/-! ### Solenoid and channels (R7, R133, R142) -/

/-- The solenoid stage takes a change of the command: off to on starts a pull-in of 60 ms, on to off
enters OFF at once, no change does nothing (R142). -/
def Drive.command (before after : Bool) (d : Drive) : Drive :=
  match before, after with
  | false, true => { d with stage := .pullIn, pullIn := some 60000, holdDriven := false }
  | true, false => { d with stage := .off, pullIn := none, holdDriven := false }
  | false, false => d
  | true, true => d

/-- Set the solenoid command; the output stage follows (R7, R142). -/
def setSolenoid (on : Bool) (s : State) : State :=
  { s with seq := { s.seq with solenoid := on }, drive := s.drive.command s.seq.solenoid on }

/-- A channel enters ON: integrator and over-current run 0, duty and applied duty 0 (Table 8-3). -/
def Channel.enterOn (c : Channel) : Channel :=
  { c with state := .on, integrator := 0, overRun := 0, duty := 0, applied := 0 }

/-- A channel enters OFF: duty and applied duty 0, lines low (Table 8-3); it no longer counts
over-current samples (R140; assumption 22). -/
def Channel.enterOff (c : Channel) : Channel :=
  { c with state := .off, duty := 0, applied := 0, overRun := 0 }

/-- A channel takes a wanted state (Table 8-3, R133); `kindClear` says that its over-current kind is
CLEAR. -/
def Channel.want (on kindClear : Bool) (c : Channel) : Channel :=
  let c' := { c with wanted := on }
  match c.state, on with
  | .off, true => c'.enterOn
  | .off, false => c'
  | .on, true => c'
  | .on, false => c'.enterOff
  | .tripped, true => c'
  | .tripped, false => if kindClear then c'.enterOff else c'

/-- The channel of a bridge. -/
def Drive.channel (d : Drive) : Bridge → Channel
  | .tilt => d.tilt
  | .steer => d.steer

/-- The drive block with one channel replaced. -/
def Drive.setChannel (d : Drive) (b : Bridge) (c : Channel) : Drive :=
  match b with
  | .tilt => { d with tilt := c }
  | .steer => { d with steer := c }

/-- Give a channel its wanted state; it acts in the same event (R133). -/
def want (b : Bridge) (on : Bool) (s : State) : State :=
  let kindClear := (s.faults.get b.overcurrent).state == .clear
  let c := (s.drive.channel b).want on kindClear
  { s with drive := s.drive.setChannel b c }

/-! ### Mode changes (R2, R3, R8) -/

/-- The solenoid command of a mode; SAFE follows R24 instead (Table 1-1). -/
def Mode.solenoidOn : Mode → Bool
  | .off | .held | .engaging | .safe => false
  | .releasing | .active | .capturing => true

/-- The tilt channel's wanted state in a mode (Table 1-1). -/
def Mode.tiltWanted : Mode → Bool
  | .off | .held => false
  | .releasing | .active | .capturing | .engaging | .safe => true

/-- The steer channel's wanted state in a mode (Table 1-1). -/
def Mode.steerWanted : Mode → Bool
  | .off | .safe => false
  | .held | .releasing | .active | .capturing | .engaging => true

/-- The lock limit timer as a mode change leaves it: started on entry into RELEASING and ENGAGING,
stopped on every exit from them (R8). -/
def Mode.lockLimit : Mode → Timer
  | .releasing | .engaging => some 150000
  | .off | .held | .active | .capturing | .safe => none

/-- Change the mode: the solenoid command and the wanted channel states of the new mode, the lock limit
timer, then the MODE_CHANGED report (R2, R3, R8). `solenoid` and `latch` are the command and the SAFE
solenoid latch the entry leaves. -/
def changeMode (m : Mode) (cause : ModeCause) (solenoid latch : Bool) (s : State) : State :=
  let before := s.seq.mode
  let s := setSolenoid solenoid s
  let s := want .tilt m.tiltWanted s
  let s := want .steer m.steerWanted s
  let s := { s with seq := { s.seq with mode := m, lockLimit := m.lockLimit, latchHolding := latch } }
  stage (.modeChanged before m cause) s

/-- Enter a mode other than SAFE; on leaving SAFE the latch returns to released (R24). -/
def enterMode (m : Mode) (cause : ModeCause) (s : State) : State :=
  changeMode m cause m.solenoidOn false s

/-! ### Table swap (R26, R63) -/

/-- The generation a swap leaves: one more, wrapping from 65535 to 1. -/
def nextGeneration (g : Word) : Word := if g = 0xFFFF then 1 else g + 1

/-- Swap: the pending bank is copied to the active bank, commit pending is cleared, the generation
rises, and TABLES_SWAPPED is staged (R63). -/
def swap (s : State) : State :=
  let g := nextGeneration s.tables.generation
  stage (.tablesSwapped g)
    { s with tables := { s.tables with activeBank := s.tables.pendingBank, commitPending := false,
                                       generation := g } }

/-- The sequencer's swap request: it does nothing while no commit is pending (R26, R63). -/
def requestSwap (s : State) : State := if s.tables.commitPending then swap s else s

/-- The active tuning record. -/
def State.tuning (s : State) : Tuning := s.tables.activeBank.tuning

/-! ### Entries into a mode (R11 to R25) -/

/-- Enter HELD: counts to 0, then the swap request (R20, R26). -/
def enterHeld (cause : ModeCause) (s : State) : State :=
  let s := enterMode .held cause s
  requestSwap { s with seq := { s.seq with attemptCount := 0, captureCount := 0 } }

/-- Enter OFF: counts to 0 (R14). -/
def enterOff (cause : ModeCause) (s : State) : State :=
  let s := enterMode .off cause s
  { s with seq := { s.seq with attemptCount := 0, captureCount := 0 } }

/-- Enter ENGAGING; with the lock drive already ENGAGED, HELD follows in the same event (R20). -/
def enterEngaging (cause : ModeCause) (s : State) : State :=
  let s := enterMode .engaging cause s
  match s.seq.lockDrive with
  | .engaged => enterHeld .lockContact s
  | .moving => s
  | .released => s
  | .conflict => s

/-- Enter CAPTURING with the capture qualification count at 0 (R18, R21, R25). -/
def enterCapturing (cause : ModeCause) (s : State) : State :=
  let s := enterMode .capturing cause s
  { s with seq := { s.seq with captureCount := 0 } }

/-- Return to ACTIVE from CAPTURING with the capture qualification count at 0 (R19). -/
def enterActive (cause : ModeCause) (s : State) : State :=
  let s := enterMode .active cause s
  { s with seq := { s.seq with captureCount := 0 } }

/-! ### SAFE requests (R22, R23, R24, R160) -/

/-- Write the retained last-safe record from the request and the results record, and raise the
safe-entry count, saturating at 255 (R23, R160). -/
def writeRetained (k : FaultKind) (lastInstance : Nat) (before : Mode) (s : State) : State :=
  { s with faults := { s.faults with
      retained := { kind := k.code, lastInstance := lastInstance, modeBefore := before,
                    phi := s.law.results.phi, v := s.law.results.v, cycle := s.law.results.cycle,
                    count := bump 255 s.faults.retained.count } } }

/-- Whether the SAFE solenoid latch is set to holding at an entry into SAFE: the lock drive is not
ENGAGED and the speed at last cycle end is at least v_cap (R24). -/
def State.safeLatch (s : State) : Bool :=
  s.seq.lockDrive != .engaged && decide (s.tuning.vCap ≤ s.seq.lastSpeed)

/-- Enter SAFE (R22, R24): the solenoid command follows the latch. -/
def enterSafe (k : FaultKind) (lastInstance : Nat) (s : State) : State :=
  let before := s.seq.mode
  let holding := s.safeLatch
  let s := { s with seq := { s.seq with captureCount := 0 } }
  writeRetained k lastInstance before (changeMode .safe .fault holding holding s)

/-- The sequencer takes a SAFE request according to its mode (R22). -/
def safeRequest (k : FaultKind) (lastInstance : Nat) (s : State) : State :=
  match s.seq.mode with
  | .off => s
  | .safe => writeRetained k lastInstance .safe s
  | .held => enterSafe k lastInstance s
  | .releasing => enterSafe k lastInstance s
  | .active => enterSafe k lastInstance s
  | .capturing => enterSafe k lastInstance s
  | .engaging => enterSafe k lastInstance s

/-! ### Fault monitor (R147 to R154) -/

/-- Replace a kind's record. -/
def putFault (k : FaultKind) (r : FaultRecord) (s : State) : State :=
  { s with faults := s.faults.put k r }

/-- Stage FAULT_CHANGED with the record's values (R158). -/
def stageFault (k : FaultKind) (r : FaultRecord) (s : State) : State :=
  stage (.faultChanged k r.lastInstance r.state r.effective r.count) s

/-- The record a raise leaves, before its acknowledge timer starts (R147 steps 1 to 4, R148). -/
def FaultRecord.raised (momentary : Bool) (lastInstance : Nat) (r : FaultRecord) : FaultRecord :=
  { r with state := if momentary then .latched else .active, reaction := r.policyReaction,
           timeout := r.policyTimeout, acknowledged := false, escalated := false, ackTimer := none,
           count := bump 255 r.count, lastInstance := lastInstance }

/-- The acknowledge timer a raise starts: for reaction DEGRADE and an ack timeout other than 0, of
timeout × 10 ms (R147 step 7). -/
def FaultRecord.startAck (r : FaultRecord) : FaultRecord :=
  if r.effective == .degrade && r.timeout != 0 then
    { r with ackTimer := some (r.timeout * 10000) }
  else r

/-- The fault line at a raise (R147 step 8, R156, R157): with reaction DEGRADE or SAFE the 200 ms timer
starts or restarts, and FAULT_LINE_ASSERTED is set if the line was inactive before. With REPORT nothing is
done: a line that the kind's former reaction alone held is then released (DEDUCED, assumption 37). -/
def assertLine (wasActive : Bool) (r : Reaction) (s : State) : State :=
  match r with
  | .report => s
  | .degrade | .safe =>
    let s := { s with faults := { s.faults with minTimer := some 200000 } }
    if wasActive then s else setCause .faultLineAsserted s

/-- A raise of a fault kind (R147, R148): the record, FAULT_CHANGED, the SAFE request, the acknowledge
timer and the fault line, in that order. A raise under a policy lowered to REPORT may release the fault line
(DEDUCED, assumption 37). -/
def raise (k : FaultKind) (lastInstance : Nat) (s : State) : State :=
  let wasActive := s.faults.fltnActive
  let r := (s.faults.get k).raised k.momentary lastInstance
  let s := stageFault k r (putFault k r s)
  let s := match r.effective with
    | .safe => safeRequest k lastInstance s
    | .report => s
    | .degrade => s
  let s := putFault k r.startAck s
  assertLine wasActive r.effective s

/-- An end of a lasting kind: ACTIVE becomes LATCHED with FAULT_CHANGED; else no effect (R149). -/
def endFault (k : FaultKind) (s : State) : State :=
  let r := s.faults.get k
  match r.state with
  | .active =>
    let r := { r with state := .latched }
    stageFault k r (putFault k r s)
  | .clear => s
  | .latched => s

/-- The expiry of a kind's acknowledge timer: a kind not CLEAR and not acknowledged escalates (R152). -/
def escalate (k : FaultKind) (s : State) : State :=
  let r := { s.faults.get k with ackTimer := none }
  if r.state != .clear && !r.acknowledged then
    let r := { r with escalated := true }
    safeRequest k r.lastInstance (stageFault k r (putFault k r s))
  else putFault k r s

/-- The record a clear leaves (R154 steps 1 and 2). -/
def FaultRecord.clearedByHost (r : FaultRecord) : FaultRecord :=
  { r with state := .clear, acknowledged := false, escalated := false, ackTimer := none,
           reaction := r.policyReaction, timeout := r.policyTimeout }

/-- A channel takes the notice that its over-current kind has become CLEAR (R134). -/
def Channel.clearNotice (c : Channel) : Channel :=
  match c.state, c.wanted with
  | .tripped, false => c.enterOff
  | .tripped, true => c
  | .off, _ => c
  | .on, _ => c

/-- Notify the drive channel whose over-current kind has become CLEAR, if any (R154 step 5). -/
def notifyClear (k : FaultKind) (s : State) : State :=
  if k = .tiltOvercurrent then
    { s with drive := { s.drive with tilt := s.drive.tilt.clearNotice } }
  else if k = .steerOvercurrent then
    { s with drive := { s.drive with steer := s.drive.steer.clearNotice } }
  else s

/-- A LATCHED kind becomes CLEAR (R154). -/
def clearKind (k : FaultKind) (s : State) : State :=
  let r := (s.faults.get k).clearedByHost
  notifyClear k (stageFault k r (putFault k r s))

end Sys2Proof.Machine
end

