-- ==== Sys2Proof/Machine/Snapshot.lean ====
section
/-! DEFINITION. The records the port writes in every window: the snapshot (R178, R193), the fault page
(R159, R194) and the retained last-safe record (R160, R194); a trace value is a word of the snapshot
(R192). -/

namespace Sys2Proof.Machine

/-- Two byte fields packed in one word, the first at the lower address. -/
def packBytes (low high : Nat) : Word := joinBytes (byteOfNat low) (byteOfNat high)

/-- A number as an unsigned word. -/
def wordOfNat (n : Nat) : Word := BitVec.ofNat 16 n

/-- The selector's record of a quantity. -/
def Selector.get (x : Selector) : Quantity → QuantityRecord
  | .lean => x.lean
  | .rate => x.rate
  | .steer => x.steer
  | .torque => x.torque

/-- The selector with one quantity's record replaced. -/
def Selector.put (x : Selector) (q : Quantity) (r : QuantityRecord) : Selector :=
  match q with
  | .lean => { x with lean := r }
  | .rate => { x with rate := r }
  | .steer => { x with steer := r }
  | .torque => { x with torque := r }

/-- The wheel states packed, two bits each (Table 11-10). -/
def Tracker.stateByte (t : Tracker) : Nat :=
  t.frontLeft.shown.state.code + 4 * t.frontRight.shown.state.code + 16 * t.rear.shown.state.code

/-- The quantity states packed, two bits each (Table 11-10). -/
def Selector.stateByte (x : Selector) : Nat :=
  x.lean.shown.state.code + 4 * x.rate.shown.state.code + 16 * x.steer.shown.state.code
    + 64 * x.torque.shown.state.code

/-- Two sources in use packed, four bits each (Table 11-10). -/
def sourceByte (a b : Source) : Nat := a.code + 16 * b.code

/-- The status flags (Table 11-10). -/
def State.statusByte (s : State) : Nat :=
  bit s.faults.degradeInForce + 2 * bit s.faults.fltnActive + 4 * bit s.tables.commitPending
    + 8 * bit s.bus.stuck

/-- The 32 words of the snapshot record as they would be written now (Table 11-9). The quantities and the
wheels show what the most recent computation left (R94, R101, R117; assumption 7). -/
def State.snapshotWords (s : State) : List Word :=
  let r := s.law.results
  [s.port.snapshotNumber, r.cycle, packBytes s.seq.mode.code s.seq.lockDrive.code,
   wordOfInt r.phi, wordOfInt r.phiDot, wordOfInt r.phiStar, wordOfInt r.delta, wordOfInt r.tauR,
   wordOfNat r.v, wordOfNat s.wheels.frontLeft.shown.speed,
   wordOfNat s.wheels.frontRight.shown.speed, wordOfNat s.wheels.rear.shown.speed,
   packBytes s.wheels.stateByte s.sel.stateByte,
   wordOfInt r.aEff, wordOfInt r.gEff, wordOfInt r.tTilt, wordOfInt r.tSteer, wordOfInt r.iTilt,
   wordOfInt r.iSteer, wordOfInt s.conv.tiltCurrent, wordOfInt s.conv.steerCurrent,
   wordOfInt s.drive.tilt.duty, wordOfInt s.drive.steer.duty, wordOfInt s.conv.supply,
   wordOfInt s.conv.tiltTemp, wordOfInt s.conv.steerTemp,
   packBytes s.bus.presentByte s.bus.joinedByte,
   packBytes (sourceByte s.sel.lean.shown.inUse s.sel.rate.shown.inUse)
     (sourceByte s.sel.steer.shown.inUse s.sel.torque.shown.inUse),
   packBytes (s.faults.countIn .active) (s.faults.countIn .latched),
   packBytes s.statusByte s.seq.attemptCount, packBytes s.bus.queue.length 0,
   s.tables.generation]

/-- The value of a trace quantity code: the word at byte offset 2 × code of the snapshot (R192). -/
def State.traceValue (s : State) (code : Nat) : Word := s.snapshotWords.getD code 0

/-- The 64 bytes of the snapshot record (R193). -/
def State.snapshotBytes (s : State) : List Byte := s.snapshotWords.flatMap wordBytes

/-- A kind's fault page entry (Table 11-11). -/
def FaultRecord.pageEntry (r : FaultRecord) : List Byte :=
  [byteOfNat r.state.code,
   byteOfNat (r.effective.code + 4 * bit r.acknowledged + 8 * bit r.escalated),
   byteOfNat r.count, byteOfNat r.lastInstance]

/-- The 80 bytes of the fault page, in code order (R194). -/
def FaultMonitor.pageBytes (m : FaultMonitor) : List Byte :=
  m.table.toList.flatMap FaultRecord.pageEntry

/-- The 16 bytes of the retained last-safe record (Table 11-12). -/
def Retained.bytes (r : Retained) : List Byte :=
  [byteOfNat r.kind, byteOfNat r.lastInstance, byteOfNat r.modeBefore.code, byteOfNat r.count]
    ++ wordBytes (wordOfInt r.phi) ++ wordBytes (wordOfNat r.v) ++ wordBytes r.cycle
    ++ List.replicate 6 0

/-- Trace sampling at a completion notice of the law: while the trace is on the notice is counted, and
at the decimation one TRACE report is staged and the counter returns to 0 (R177). -/
def traceSample (s : State) : State :=
  let t := s.port.selection
  if t.decimation = 0 ∨ t.codes = [] then s
  else if t.counter + 1 < t.decimation then
    { s with port := { s.port with selection := { t with counter := t.counter + 1 } } }
  else
    stage (.trace (t.codes.map s.traceValue))
      { s with port := { s.port with selection := { t with counter := 0 } } }

end Sys2Proof.Machine
end

