-- ==== Sys2Proof/Machine/Sources.lean ====
section
/-! DEFINITION. The source selector (Chapter 5): values and freshness of sources, the resolution of a
quantity with its report and conditions, and SET_SOURCES. -/

namespace Sys2Proof.Machine

/-- The lower end of a quantity's range (section 4.2). -/
def Quantity.lo : Quantity → Int
  | .lean => -4500 | .rate => -30000 | .steer => -4000 | .torque => -2500

/-- The upper end of a quantity's range. -/
def Quantity.hi : Quantity → Int
  | .lean => 4500 | .rate => 30000 | .steer => 4000 | .torque => 2500

/-- Saturated to the quantity's range. -/
def Quantity.saturate (q : Quantity) (x : Int) : Int := clampInt q.lo q.hi x

/-- The rate formed from two successive values, 500 computations a second, saturated to ±30000
(R31, R92). -/
def rateOf (now before : Int) : Int := clampInt (-30000) 30000 ((now - before) * 500)

/-- A potentiometer's raw count lies within the freshness window 100..3995 (Table 5-2). -/
def potFresh (raw : Int) : Bool := decide (100 ≤ raw) && decide (raw ≤ 3995)

/-- A potentiometer's value before saturation (R92). -/
def PotScale.value (p : PotScale) (raw : Int) : Int := rdiv ((raw - p.centre) * p.gain) 256

/-- Whether a source is fresh for a quantity at the moment it is read (Table 5-2, R93). -/
def State.sourceFresh (s : State) (q : Quantity) (src : Source) : Bool :=
  match src with
  | .device i => s.bus.devices[i].run.joined
  | .pot =>
    match q with
    | .lean => potFresh s.conv.leanPot
    | .steer => potFresh s.conv.steerPot
    | .rate => false
    | .torque => false
  | .derived =>
    match s.sel.lean.state with
    | .primary => true
    | .fallback => true
    | .held => false
    | .lost => false
  | .absent => false

/-- The value of a source for a quantity (R92); `phi` is the lean angle served to the present
computation. A source that is never fresh for the quantity is never served, and reads 0 here. -/
def State.sourceValue (s : State) (q : Quantity) (phi : Int) (src : Source) : Int :=
  match src with
  | .device i => q.saturate s.bus.devices[i].run.last
  | .pot =>
    match q with
    | .lean => q.saturate (s.sel.leanPot.value s.conv.leanPot)
    | .steer => q.saturate (s.sel.steerPot.value s.conv.steerPot)
    | .rate => 0
    | .torque => 0
  | .derived => rateOf phi s.sel.prevPhi
  | .absent => 0

/-- Enter PRIMARY: both counts to 0. -/
def QuantityRecord.toPrimary (r : QuantityRecord) : QuantityRecord :=
  { r with state := .primary, inUse := r.primary, holdCount := 0, returnCount := 0 }

/-- Enter FALLBACK: both counts to 0. -/
def QuantityRecord.toFallback (r : QuantityRecord) : QuantityRecord :=
  { r with state := .fallback, inUse := r.fallback, holdCount := 0, returnCount := 0 }

/-- Enter HELD with hold count 1. -/
def QuantityRecord.toHeld (r : QuantityRecord) : QuantityRecord :=
  { r with state := .held, inUse := .absent, holdCount := 1, returnCount := 0 }

/-- The move of a quantity's state by the freshness of its primary and fallback (R95, R96,
Table 5-6). -/
def QuantityRecord.move (pFresh fFresh : Bool) (r : QuantityRecord) : QuantityRecord :=
  match r.state with
  | .primary => if pFresh then { r with holdCount := 0 } else if fFresh then r.toFallback else r.toHeld
  | .fallback =>
    if pFresh then
      if r.returnCount + 1 < 25 ∧ fFresh = true then { r with returnCount := r.returnCount + 1 }
      else r.toPrimary
    else if fFresh then { r with returnCount := 0 } else r.toHeld
  | .held =>
    if pFresh then r.toPrimary
    else if fFresh then r.toFallback
    else if r.holdCount + 1 < 10 then { r with holdCount := r.holdCount + 1 }
    else { r with state := .lost, holdCount := 10 }
  | .lost =>
    if pFresh then r.toPrimary else if fFresh then r.toFallback else r

/-- The value served from the state a resolution leaves (Table 5-4, R97). -/
def State.servedValue (s : State) (q : Quantity) (phi : Int) (r : QuantityRecord) : Int :=
  match r.state with
  | .primary => s.sourceValue q phi r.primary
  | .fallback => s.sourceValue q phi r.fallback
  | .held => r.held
  | .lost =>
    match q with
    | .lean => r.held
    | .rate => r.held
    | .steer => 0
    | .torque => 0

/-- The record with its held value brought up to date: a fresh source's value is kept (R94). -/
def QuantityRecord.keepHeld (served : Int) (r : QuantityRecord) : QuantityRecord :=
  match r.state with
  | .primary => { r with held := served }
  | .fallback => { r with held := served }
  | .held => r
  | .lost => r

/-- The condition a quantity calls for, in the mode taken at the expiry (R98). -/
def calledFor (taken : Mode) (q : Quantity) (st : QuantityState) : Raised :=
  if taken = .off then .nothing
  else
    match st with
    | .primary => .nothing
    | .held => .nothing
    | .fallback => if q = .torque then .nothing else .fallback
    | .lost => .lost

/-- The fault kind of a quantity's condition; TORQUE has no fallback condition (section 5.3). -/
def conditionKind (q : Quantity) (c : Raised) : Option FaultKind :=
  match q, c with
  | _, .nothing => none
  | .lean, .fallback => some .leanFallback
  | .lean, .lost => some .leanLost
  | .rate, .fallback => some .rateFallback
  | .rate, .lost => some .rateLost
  | .steer, .fallback => some .steerFallback
  | .steer, .lost => some .steerLost
  | .torque, .fallback => none
  | .torque, .lost => some .torqueLost

/-- End a condition's kind, if there is one. -/
def endCondition (k : Option FaultKind) (s : State) : State :=
  match k with
  | some k => endFault k s
  | none => s

/-- Raise a condition's kind, if there is one, with instance 0. -/
def raiseCondition (k : Option FaultKind) (s : State) : State :=
  match k with
  | some k => raise k 0 s
  | none => s

/-- Replace a quantity's record. -/
def putQuantity (q : Quantity) (r : QuantityRecord) (s : State) : State :=
  { s with sel := s.sel.put q r }

/-- Bring a quantity's conditions up to date: end the one held raised, then raise the one called for,
where the two differ (R98). -/
def updateCondition (taken : Mode) (q : Quantity) (s : State) : State :=
  let r := s.sel.get q
  let c := calledFor taken q r.state
  if c = r.raised then s
  else
    raiseCondition (conditionKind q c)
      (endCondition (conditionKind q r.raised) (putQuantity q { r with raised := c } s))

/-- Stage SOURCE_CHANGED when the source in use has changed (R99). -/
def reportSource (q : Quantity) (before after : Source) (s : State) : State :=
  if before = after then s else stage (.sourceChanged q before after) s

/-- The resolution's state and source in use, kept for those who see them until the next one (R94). -/
def QuantityRecord.show (r : QuantityRecord) : QuantityRecord :=
  { r with shown := { state := r.state, inUse := r.inUse } }

/-- Resolve one quantity, whole (R94): the move, the served value, the held value, SOURCE_CHANGED and
the conditions. The served value is returned beside the state. -/
def resolve (taken : Mode) (q : Quantity) (phi : Int) (s : State) : State × Int :=
  let r := s.sel.get q
  let moved := r.move (s.sourceFresh q r.primary) (s.sourceFresh q r.fallback)
  let served := s.servedValue q phi moved
  let s := putQuantity q (moved.keepHeld served).show s
  let s := reportSource q r.inUse moved.inUse s
  (updateCondition taken q s, served)

/-- The four values the selector serves to a computation (R30). -/
structure Served where
  phi : Int
  phiDot : Int
  delta : Int
  tauR : Int
deriving DecidableEq, Repr

/-- The selector's part of stage 1: LEAN, RATE, STEER, TORQUE in order; φprev takes φ after RATE's
resolution (R92, R94). -/
def selectorStage (taken : Mode) (s : State) : State × Served :=
  let lean := resolve taken .lean s.sel.lean.held s
  let phi := lean.2
  let rate := resolve taken .rate phi lean.1
  let s := rate.1
  let s := { s with sel := { s.sel with prevPhi := phi } }
  let steer := resolve taken .steer phi s
  let torque := resolve taken .torque phi steer.1
  (torque.1, { phi := phi, phiDot := rate.2, delta := steer.2, tauR := torque.2 })

/-! ### SET_SOURCES (R100) -/

/-- The outcome of a directive: its code, its detail and its data list (R187). -/
structure Done where
  outcome : Answer
  detail : Nat
  data : List Byte
deriving DecidableEq, Repr

/-- An outcome without a data list. -/
def Done.plain (outcome : Answer) (detail : Nat) : Done :=
  { outcome := outcome, detail := detail, data := [] }

/-- ACCEPTED with detail 0, or ACCEPTED_CLAMPED with the count of clamped values saturated at 255
(R57, R188). -/
def Done.clamped (n : Nat) : Done :=
  if n = 0 then .plain .accepted 0 else .plain .acceptedClamped (min 255 n)

/-- Whether Table 5-1 allows a source for a quantity. -/
def Source.allowed (q : Quantity) : Source → Bool
  | .device _ => true
  | .pot => q == .lean || q == .steer
  | .derived => q == .rate
  | .absent => true

/-- A source code as SET_SOURCES takes it: a code above 8, or one not allowed for its quantity, becomes
NONE and counts one clamped value. -/
def clampSource (q : Quantity) (code : Nat) : Source × Nat :=
  let src := Source.ofCode code
  if 8 < code then (.absent, 1) else if src.allowed q then (src, 0) else (.absent, 1)

/-- A quantity's new sources: PRIMARY with the new primary in use and both counts 0; the held value, the
condition raised and what the last resolution left are kept (R94, R100). -/
def QuantityRecord.remap (p f : Source) (r : QuantityRecord) : QuantityRecord :=
  { r with primary := p, fallback := f, state := .primary, inUse := p, holdCount := 0,
           returnCount := 0 }

/-- A potentiometer scaling as SET_SOURCES takes it, with the count of values clamped. -/
def clampPot (body : List Byte) (i : Nat) : PotScale × Nat :=
  let c := unsignedAt body i
  ({ centre := min 4095 c, gain := signedAt body (i + 2) }, if 4095 < c then 1 else 0)

/-- Write one quantity's sources from its two codes. -/
def remapQuantity (q : Quantity) (body : List Byte) (s : State) : State × Nat :=
  let p := clampSource q (byteAt body (2 * q.code))
  let f := clampSource q (byteAt body (2 * q.code + 1))
  (putQuantity q ((s.sel.get q).remap p.1 f.1) s, p.2 + f.2)

/-- SET_SOURCES (R100). -/
def setSources (body : List Byte) (s : State) : State × Done :=
  if s.seq.mode = .off then
    let old := s.sel
    let a := remapQuantity .lean body s
    let b := remapQuantity .rate body a.1
    let c := remapQuantity .steer body b.1
    let d := remapQuantity .torque body c.1
    let lp := clampPot body 8
    let sp := clampPot body 12
    let s := d.1
    let s := { s with sel := { s.sel with leanPot := lp.1, steerPot := sp.1 } }
    let s := reportSource .lean old.lean.inUse s.sel.lean.inUse s
    let s := reportSource .rate old.rate.inUse s.sel.rate.inUse s
    let s := reportSource .steer old.steer.inUse s.sel.steer.inUse s
    let s := reportSource .torque old.torque.inUse s.sel.torque.inUse s
    (s, .clamped (a.2 + b.2 + c.2 + d.2 + lp.2 + sp.2))
  else (s, .plain .mode s.seq.mode.code)

end Sys2Proof.Machine
end

