-- ==== Sys2Proof/Machine/Wheels.lean ====
section
/-! DEFINITION. The wheel pulse tracker (Chapter 6): pulse arrivals, the evaluation and fusion at each
computation, its two conditions, SET_WHEEL, and the meaning of WHEEL_PULSE. -/

namespace Sys2Proof.Machine

/-- The record of a wheel. -/
def Tracker.get (t : Tracker) : Wheel → WheelRecord
  | .frontLeft => t.frontLeft
  | .frontRight => t.frontRight
  | .rear => t.rear

/-- The tracker with one wheel's record replaced. -/
def Tracker.put (t : Tracker) (w : Wheel) (r : WheelRecord) : Tracker :=
  match w with
  | .frontLeft => { t with frontLeft := r }
  | .frontRight => { t with frontRight := r }
  | .rear => { t with rear := r }

/-- An interval between two counter values, modulo 2³² (R102). -/
def interval (now before : Stamp) : Nat := (now - before).toNat

/-- The speed of a wheel whose teeth pass `us` µs apart: arc × 100 / us, rounded (R107, R109). -/
def WheelRecord.speedOver (w : WheelRecord) (us : Nat) : Nat := rdivNat (w.arc * 100) us

/-- Whether a pulse is rejected (R106). -/
def WheelRecord.rejects (w : WheelRecord) (d : Nat) : Bool :=
  d == 0 ||
    match w.lastPeriod with
    | some p => decide (d * 100 < 40 * p)
    | none => false

/-- A rejected pulse (R106). -/
def WheelRecord.reject (w : WheelRecord) : WheelRecord :=
  let n := bump 8 w.rejectRun
  { w with rejectRun := n, acceptRun := 0, state := if n = 8 then .noisy else w.state }

/-- Steps 1 to 3 of an accepted pulse, the accept run apart (R107, R108). -/
def WheelRecord.measure (w : WheelRecord) (stamp : Stamp) (d : Nat) : WheelRecord :=
  { w with lastPeriod := if d ≤ 400000 then some d else w.lastPeriod,
           speed := min 3000 (w.speedOver d), reference := some stamp, rejectRun := 0 }

/-- An accepted pulse: R108 in NOISY, R107 in the other states. -/
def WheelRecord.accept (w : WheelRecord) (stamp : Stamp) (d : Nat) : WheelRecord :=
  let m := w.measure stamp d
  match w.state with
  | .noisy =>
    if w.acceptRun + 1 < 4 then { m with acceptRun := w.acceptRun + 1 }
    else { m with acceptRun := 0, state := .rolling }
  | .stopped => { m with acceptRun := 0, state := .rolling }
  | .rolling => { m with acceptRun := 0, state := .rolling }
  | .decaying => { m with acceptRun := 0, state := .rolling }

/-- A pulse with an interval is rejected or accepted. -/
def WheelRecord.judge (w : WheelRecord) (stamp : Stamp) (d : Nat) : WheelRecord :=
  if w.rejects d then w.reject else w.accept stamp d

/-- A first pulse: its timestamp becomes the reference and nothing else changes (R105, R108). -/
def WheelRecord.firstPulse (w : WheelRecord) (stamp : Stamp) : WheelRecord :=
  { w with reference := some stamp }

/-- A pulse arrival at a wheel (R105 to R108). -/
def WheelRecord.pulse (w : WheelRecord) (stamp : Stamp) : WheelRecord :=
  match w.reference with
  | none => w.firstPulse stamp
  | some ref =>
    let d := interval stamp ref
    match w.state with
    | .stopped => if 400000 < d then w.firstPulse stamp else w.judge stamp d
    | .noisy => if 400000 < d then w.firstPulse stamp else w.judge stamp d
    | .rolling => w.judge stamp d
    | .decaying => w.judge stamp d

/-- A wheel whose elapsed time is greater than 400000 µs (R110). -/
def WheelRecord.stop (w : WheelRecord) : WheelRecord :=
  match w.state with
  | .rolling => { w with state := .stopped, speed := 0, reference := none, lastPeriod := none,
                         rejectRun := 0, acceptRun := 0 }
  | .decaying => { w with state := .stopped, speed := 0, reference := none, lastPeriod := none,
                          rejectRun := 0, acceptRun := 0 }
  | .stopped => { w with reference := none }
  | .noisy => { w with speed := 0, reference := none, lastPeriod := none, acceptRun := 0 }

/-- The speed a decaying wheel has after `elapsed` µs without a pulse (R109). -/
def WheelRecord.decayed (w : WheelRecord) (elapsed : Nat) : Nat :=
  min w.speed (w.speedOver elapsed)

/-- The evaluation of a wheel at a computation (R109, R110). -/
def WheelRecord.evaluate (w : WheelRecord) (now : Stamp) : WheelRecord :=
  match w.reference with
  | none => w
  | some ref =>
    let e := interval now ref
    if 400000 < e then w.stop
    else
      match w.state with
      | .rolling =>
        match w.lastPeriod with
        | some p => if 2 * p < e then { w with state := .decaying, speed := w.decayed e } else w
        | none => w
      | .decaying => { w with speed := w.decayed e }
      | .stopped => w
      | .noisy => w

/-- The middle value of three. -/
def median (a b c : Nat) : Nat := max (min a b) (min (max a b) c)

/-- The distance of two speeds. -/
def distance (a b : Nat) : Nat := (a - b) + (b - a)

/-- The exclusion bound about a median (R111). -/
def exclusionBound (m : Nat) : Nat := rdivNat (m * 30) 100 + 50

/-- All three wheels are ROLLING, and so valid: the exclusion applies (R111). -/
def Tracker.allRolling (t : Tracker) : Bool :=
  t.frontLeft.state == .rolling && t.frontRight.state == .rolling && t.rear.state == .rolling

/-- Whether a wheel is valid for the fusion (R111). -/
def Tracker.valid (t : Tracker) (w : WheelRecord) : Bool :=
  let m := median t.frontLeft.speed t.frontRight.speed t.rear.speed
  w.state != .noisy && (!t.allRolling || decide (distance w.speed m ≤ exclusionBound m))

/-- The fused speed of the valid wheels, or none where no wheel is valid (R112). -/
def Tracker.fused (t : Tracker) : Option Nat :=
  let a := t.frontLeft
  let b := t.frontRight
  let c := t.rear
  match t.valid a, t.valid b, t.valid c with
  | true, true, true => some (median a.speed b.speed c.speed)
  | true, true, false => some (min a.speed b.speed)
  | true, false, true => some (min a.speed c.speed)
  | false, true, true => some (min b.speed c.speed)
  | true, false, false => some a.speed
  | false, true, false => some b.speed
  | false, false, true => some c.speed
  | false, false, false => none

/-- How many wheels are valid. -/
def Tracker.validCount (t : Tracker) : Nat :=
  bit (t.valid t.frontLeft) + bit (t.valid t.frontRight) + bit (t.valid t.rear)

/-- The lowest wheel code among the wheels not valid (R114). -/
def Tracker.lowestInvalid (t : Tracker) : Nat :=
  if t.valid t.frontLeft then (if t.valid t.frontRight then 2 else 1) else 0

/-- The wheel's state and speed, kept for the snapshot until the next computation (R117). -/
def WheelRecord.show (w : WheelRecord) : WheelRecord :=
  { w with shown := { state := w.state, speed := w.speed } }

/-- The three wheels evaluated, in wheel order, at the counter's value (R109). -/
def Tracker.evaluated (t : Tracker) : Tracker :=
  { t with frontLeft := (t.frontLeft.evaluate t.counter).show,
           frontRight := (t.frontRight.evaluate t.counter).show,
           rear := (t.rear.evaluate t.counter).show }

/-- The held fused speed and the hold count after a fusion (R112, R113). -/
def Tracker.hold (t : Tracker) : Tracker :=
  match t.fused with
  | some v => { t with heldSpeed := v, holdCount := 0 }
  | none => { t with holdCount := bump 10 t.holdCount }

/-- SPEED_LOST is raised when the hold count reaches 10 and ended when a wheel is valid (R113, R115). -/
def updateSpeedLost (anyValid : Bool) (s : State) : State :=
  if !anyValid && decide (10 ≤ s.wheels.holdCount) && !s.wheels.lostRaised then
    raise .speedLost 0 { s with wheels := { s.wheels with lostRaised := true } }
  else if anyValid && s.wheels.lostRaised then
    endFault .speedLost { s with wheels := { s.wheels with lostRaised := false } }
  else s

/-- WHEEL_DEGRADED is raised with fewer than two wheels valid and ended with two or more (R114). -/
def updateWheelDegraded (count lowest : Nat) (s : State) : State :=
  if count < 2 ∧ s.wheels.degradedRaised = false then
    raise .wheelDegraded lowest { s with wheels := { s.wheels with degradedRaised := true } }
  else if 2 ≤ count ∧ s.wheels.degradedRaised = true then
    endFault .wheelDegraded { s with wheels := { s.wheels with degradedRaised := false } }
  else s

/-- The tracker's part of stage 1: evaluation, fusion, conditions; the fused speed beside the state
(R109, R112 to R115). -/
def trackerStage (s : State) : State × Nat :=
  let t := s.wheels.evaluated
  let kept := t.hold
  let s := { s with wheels := kept }
  let s := updateSpeedLost t.fused.isSome s
  (updateWheelDegraded t.validCount t.lowestInvalid s, kept.heldSpeed)

/-! ### SET_WHEEL (R116) -/

/-- The wheel of a code. -/
def wheelOfCode (n : Nat) : Option Wheel :=
  match n with
  | 0 => some .frontLeft
  | 1 => some .frontRight
  | 2 => some .rear
  | _ => none

/-- A value clamped to lo..hi, with 1 where it lay outside. -/
def clampCount (lo hi x : Nat) : Nat × Nat :=
  (clampNat lo hi x, if x < lo ∨ hi < x then 1 else 0)

/-- SET_WHEEL (R116); what the most recent computation left stays shown (R117). -/
def setWheel (body : List Byte) (s : State) : State × Done :=
  match wheelOfCode (byteAt body 0) with
  | none => (s, .plain .badLength 0)
  | some w =>
    if s.seq.mode = .off then
      let teeth := clampCount 16 120 (byteAt body 1)
      let circ := clampCount 800 2500 (unsignedAt body 2)
      let r := { WheelRecord.stoppedWith teeth.1 circ.1 with shown := (s.wheels.get w).shown }
      ({ s with wheels := s.wheels.put w r }, .clamped (teeth.2 + circ.2))
    else (s, .plain .mode s.seq.mode.code)

/-! ### WHEEL_PULSE -/

/-- WHEEL_PULSE (R102, R105 to R108): the wheel's record takes the pulse, whose timestamp is the counter's
value at the edge; with another timestamp there is no such arrival (assumption 5). While a reset lasts the
tracker takes no pulse (assumption 8). -/
def execWheelPulse (w : Wheel) (stamp : Stamp) (s : State) : Host.Outcome State Fault Refusal :=
  .next <|
    match s.phase with
    | .running =>
      if stamp = s.wheels.counter then
        { s with wheels := s.wheels.put w ((s.wheels.get w).pulse s.wheels.counter) }
      else s
    | .powerOn => s
    | .pin => s
    | .soft _ => s

end Sys2Proof.Machine
end

