-- ==== Sys2Proof/Machine/LeanLaw.lean ====
section
/-! DEFINITION. The lean-steer law's stages 2 to 6 (Chapter 2): the map target, the authority schedule,
the tilt and steer torques and the current setpoints. -/

namespace Sys2Proof.Machine

/-- What the law takes at an expiry and uses unchanged through the computation (R27). -/
structure Taken where
  mode : Mode
  bank : Bank
  degrade : Bool
deriving DecidableEq, Repr

/-- The largest index up to `top` whose breakpoint is at most x, 0 where there is none (R33, R35). -/
def segment (breakpoint : Nat → Int) (x : Int) (top : Nat) : Nat :=
  match top with
  | 0 => 0
  | k + 1 => if breakpoint (k + 1) ≤ x then k + 1 else segment breakpoint x k

/-- The fraction of a value between two breakpoints, in parts of 1024, truncated (R33). -/
def fraction (x lo hi : Int) : Int := ((x - lo) * 1024).tdiv (hi - lo)

/-- A start value moved toward an end value by a fraction in parts of 1024, rounded (R34). -/
def blend (a b f : Int) : Int := a + rdiv ((b - a) * f) 1024

/-- Speed breakpoint S of an index. -/
def Bank.speedPoint (b : Bank) (i : Nat) : Int := entry b.speedAxis i 0

/-- Steering breakpoint D of an index. -/
def Bank.steerPoint (b : Bank) (j : Nat) : Int := entry b.steerAxis j 0

/-- Map entry M[i][j]. -/
def Bank.mapAt (b : Bank) (i j : Nat) : Int := entry (entry b.leanMap i (Vector.replicate 9 0)) j 0

/-- The value of a map row along the steering axis, between its columns j and j + 1 (R34). -/
def Bank.rowValue (b : Bank) (i j : Nat) (fd : Int) : Int := blend (b.mapAt i j) (b.mapAt i (j + 1)) fd

/-- The map target of a speed and a steering angle (R33, R34). -/
def Bank.mapTarget (b : Bank) (v : Nat) (delta : Int) : Int :=
  let x := clampInt (b.speedPoint 0) (b.speedPoint 7) v
  let y := clampInt (b.steerPoint 0) (b.steerPoint 8) delta
  let i := segment b.speedPoint x 6
  let j := segment b.steerPoint y 7
  let fs := fraction x (b.speedPoint i) (b.speedPoint (i + 1))
  let fd := fraction y (b.steerPoint j) (b.steerPoint (j + 1))
  blend (b.rowValue i j fd) (b.rowValue (i + 1) j fd) fs

/-- The target lean of a mode (R32). -/
def targetLean (t : Taken) (v : Nat) (delta : Int) : Int :=
  match t.mode with
  | .releasing => 0
  | .capturing => 0
  | .engaging => 0
  | .off => t.bank.mapTarget v delta
  | .held => t.bank.mapTarget v delta
  | .active => t.bank.mapTarget v delta
  | .safe => t.bank.mapTarget v delta

/-- Point P of the schedule. -/
def Bank.point (b : Bank) (k : Nat) : SchedulePoint := entry b.schedule k (.atSpeed 0)

/-- A column of the schedule over the speed (R35). -/
def Bank.column (b : Bank) (f : SchedulePoint → Nat) (v : Nat) : Int :=
  let x := clampInt (b.point 0).speed (b.point 5).speed v
  if x = (b.point 5).speed then f (b.point 5)
  else
    let k := segment (fun n => (b.point n).speed) x 4
    let p := b.point k
    let q := b.point (k + 1)
    f p + rdiv (((f q : Int) - f p) * (x - p.speed)) (q.speed - p.speed)

/-- The effective authority (Table 2-4, R36). -/
def effectiveAuthority (t : Taken) (v : Nat) : Int :=
  match t.mode with
  | .releasing => 1000
  | .capturing => 1000
  | .engaging => 1000
  | .active =>
    let a := t.bank.column SchedulePoint.authority v
    if t.degrade then min a t.bank.tuning.degradeCap else a
  | .off => 0
  | .held => 0
  | .safe => 0

/-- The effective steer gain (R37); `torqueLost` is the TORQUE state stage 1 left. -/
def effectiveGain (t : Taken) (torqueLost : Bool) (v : Nat) : Int :=
  let g := t.bank.column SchedulePoint.steerGain v
  if torqueLost then 0 else if t.degrade then min g t.bank.tuning.degradeCap else g

/-- The authority-scaled tilt torque outside SAFE (R38). -/
def pdTorque (u : Tuning) (e phiDot a : Int) : Int :=
  rdiv (rdiv (u.kp * e - u.kd * phiDot) 100 * a) 1000

/-- The damping torque in SAFE (R39). -/
def safeTorque (u : Tuning) (phiDot : Int) : Int := rdiv (-(u.kdSafe : Int) * phiDot) 100

/-- T_auth of a mode (R38, R39). -/
def authTorque (t : Taken) (phiStar phi phiDot a : Int) : Int :=
  match t.mode with
  | .safe => safeTorque t.bank.tuning phiDot
  | .off => pdTorque t.bank.tuning (phiStar - phi) phiDot a
  | .held => pdTorque t.bank.tuning (phiStar - phi) phiDot a
  | .releasing => pdTorque t.bank.tuning (phiStar - phi) phiDot a
  | .active => pdTorque t.bank.tuning (phiStar - phi) phiDot a
  | .capturing => pdTorque t.bank.tuning (phiStar - phi) phiDot a
  | .engaging => pdTorque t.bank.tuning (phiStar - phi) phiDot a

/-- The previous output moved toward a torque: both are clamped to ±tmax, and the move is by at most
`slew` (R40, R41, R45). -/
def slewed (tmax slew : Nat) (previous torque : Int) : Int :=
  let target := clampSym tmax torque
  let start := clampSym tmax previous
  if target - start ≤ slew ∧ start - target ≤ slew then target
  else if start < target then start + slew else start - slew

/-- The lean-limit cut (R42). -/
def leanCut (ls : Nat) (phi torque : Int) : Int :=
  if ls < phi.natAbs ∧ ((0 < torque ∧ 0 < phi) ∨ (torque < 0 ∧ phi < 0)) then 0 else torque

/-- The tilt torque of a mode (R40 to R43). -/
def tiltTorque (t : Taken) (previous phi auth : Int) : Int :=
  let u := t.bank.tuning
  match t.mode with
  | .off => 0
  | .held => 0
  | .releasing => leanCut u.ls phi (slewed u.tmaxTilt u.slewTilt previous auth)
  | .active => leanCut u.ls phi (slewed u.tmaxTilt u.slewTilt previous auth)
  | .capturing => leanCut u.ls phi (slewed u.tmaxTilt u.slewTilt previous auth)
  | .engaging => leanCut u.ls phi (slewed u.tmaxTilt u.slewTilt previous auth)
  | .safe => leanCut u.ls phi (slewed u.tmaxTilt u.slewTilt previous auth)

/-- The raw steer torque: the assist term minus the damping term (R44). -/
def rawSteer (tauR gain kds deltaDot : Int) : Int := rdiv (tauR * gain) 1000 - rdiv (kds * deltaDot) 100

/-- The steer torque of a mode (R45). -/
def steerTorque (t : Taken) (previous raw : Int) : Int :=
  let u := t.bank.tuning
  match t.mode with
  | .off => 0
  | .safe => 0
  | .held => slewed u.tmaxSteer u.slewSteer previous raw
  | .releasing => slewed u.tmaxSteer u.slewSteer previous raw
  | .active => slewed u.tmaxSteer u.slewSteer previous raw
  | .capturing => slewed u.tmaxSteer u.slewSteer previous raw
  | .engaging => slewed u.tmaxSteer u.slewSteer previous raw

/-- A torque as a current setpoint (R46). -/
def setpoint (kt limit : Nat) (torque : Int) : Int := clampSym limit (rdiv (torque * 1000) kt)

/-- What stage 1 leaves for the later stages (Table 2-1). -/
structure Inputs where
  served : Served
  v : Nat
  deltaDot : Int
  torqueLost : Bool
deriving DecidableEq, Repr

/-- Stages 2 to 6 (R32 to R46): the results of computation `cycle` from what was taken, what stage 1
served and the two previous outputs. -/
def computeResults (t : Taken) (x : Inputs) (prevTilt prevSteer : Int) (cycle : Word) : Results :=
  let u := t.bank.tuning
  let phiStar := targetLean t x.v x.served.delta
  let aEff := effectiveAuthority t x.v
  let gEff := effectiveGain t x.torqueLost x.v
  let kds := t.bank.column SchedulePoint.kds x.v
  let auth := authTorque t phiStar x.served.phi x.served.phiDot aEff
  let tTilt := tiltTorque t prevTilt x.served.phi auth
  let tSteer := steerTorque t prevSteer (rawSteer x.served.tauR gEff kds x.deltaDot)
  { cycle := cycle, phi := x.served.phi, phiDot := x.served.phiDot, delta := x.served.delta,
    tauR := x.served.tauR, v := x.v, phiStar := phiStar, aEff := aEff, gEff := gEff, tTilt := tTilt,
    tSteer := tSteer, iTilt := setpoint u.ktTilt u.iLimitTilt tTilt,
    iSteer := setpoint u.ktSteer u.iLimitSteer tSteer }

end Sys2Proof.Machine
end

