-- ==== Sys2Proof/Machine/Sequencing.lean ====
section
/-! DEFINITION. The tilt mode sequencer (Chapter 1): the cycle end, the lock drive, its timers, and the
directives ENABLE, DISABLE, RECOVER and LOCK_HOLD; the meanings of its six commands. -/

namespace Sys2Proof.Machine

/-! ### The cycle end (R12, R17, R18, R19, R24) -/

/-- The cycle end in HELD: the lock is released when the four conditions of R12 hold. -/
def cycleEndHeld (v : Nat) (s : State) : State :=
  if s.seq.lockRequested = false ∧ s.tuning.vRel ≤ v ∧ s.seq.holdOff = none
      ∧ s.faults.safeClassPresent = false then
    enterMode .releasing .speed s
  else s

/-- The cycle end in RELEASING (R17). -/
def cycleEndReleasing (v : Nat) (s : State) : State :=
  if s.seq.lockRequested then enterEngaging .lockRequest s
  else if v < s.tuning.vCap then enterEngaging .speed s
  else s

/-- The cycle end in ACTIVE (R18). -/
def cycleEndActive (v : Nat) (s : State) : State :=
  if v < s.tuning.vCap then enterCapturing .speed s
  else if s.seq.lockRequested = true ∧ v < s.tuning.vRel then enterCapturing .lockRequest s
  else s

/-- The lean angle and the roll rate lie within the capture band and the capture rate (R19). -/
def State.captureSteady (s : State) : Bool :=
  decide (s.law.results.phi.natAbs ≤ s.tuning.captureBand)
    && decide (s.law.results.phiDot.natAbs ≤ s.tuning.captureRate)

/-- The cycle end in CAPTURING (R19). -/
def cycleEndCapturing (v : Nat) (s : State) : State :=
  if s.tuning.vRel ≤ v ∧ s.seq.lockRequested = false then enterActive .speed s
  else
    let n := if s.captureSteady then bump 5 s.seq.captureCount else 0
    let s := { s with seq := { s.seq with captureCount := n } }
    if n = 5 then enterEngaging .captureQualified s else s

/-- The cycle end in SAFE: a holding latch is released below v_cap (R24). -/
def cycleEndSafe (v : Nat) (s : State) : State :=
  if s.seq.latchHolding = true ∧ v < s.tuning.vCap then
    setSolenoid false { s with seq := { s.seq with latchHolding := false } }
  else s

/-- The cycle end: the speed is kept, then the mode's conditions are weighed on the results record
(R14, R49). -/
def cycleEnd (s : State) : State :=
  let v := s.law.results.v
  let s := { s with seq := { s.seq with lastSpeed := v } }
  match s.seq.mode with
  | .off => s
  | .held => cycleEndHeld v s
  | .releasing => cycleEndReleasing v s
  | .active => cycleEndActive v s
  | .capturing => cycleEndCapturing v s
  | .engaging => s
  | .safe => cycleEndSafe v s

/-! ### The lock drive (R5, R6, R13, R15, R20) -/

/-- Entering CONFLICT raises LOCK_CONTACTS_CONFLICT, leaving it ends the kind (R6). -/
def conflictChange (before after : LockDrive) (s : State) : State :=
  if after = .conflict then raise .lockContactsConflict 0 s
  else if before = .conflict then endFault .lockContactsConflict s
  else s

/-- A lock drive change: the conflict condition, the end of LOCK_POSITION_LOST on a change into
ENGAGED, then the mode's own handling (R6, R13, R15, R20; assumption 20). -/
def lockDriveChange (before after : LockDrive) (s : State) : State :=
  let s := conflictChange before after s
  let s := if after = .engaged then endFault .lockPositionLost s else s
  match s.seq.mode with
  | .held =>
    if before = .engaged ∧ (after = .moving ∨ after = .released) then raise .lockPositionLost 0 s
    else s
  | .releasing => if after = .released then enterMode .active .lockContact s else s
  | .engaging => if after = .engaged then enterHeld .lockContact s else s
  | .off => s
  | .active => s
  | .capturing => s
  | .safe => s

/-- The contact of a line. -/
def Sequencer.contact (q : Sequencer) : Line → Contact
  | .lke => q.lke
  | .lkr => q.lkr
  | .lrq => q.lrq

/-- The sequencer with one contact replaced. -/
def Sequencer.setContact (q : Sequencer) (l : Line) (c : Contact) : Sequencer :=
  match l with
  | .lke => { q with lke := c }
  | .lkr => { q with lkr := c }
  | .lrq => { q with lrq := c }

/-- A contact whose line takes a level: a movement starts the 5 ms, a return to the debounced level
stops them, and a level that stands is no movement (R5). -/
def Contact.move (c : Contact) (closed : Bool) : Contact :=
  if closed = c.line then c
  else { c with line := closed, debounce := if closed = c.level then none else some 5000 }

/-- A contact whose line's level is accepted (R5). -/
def Contact.accept (c : Contact) : Contact := { c with level := c.line, debounce := none }

/-- CONTACT_LINE_CHANGE (R5). While a reset lasts the line moves and nothing is timed: its level is
accepted 5 ms after the reset ends (assumption 8). -/
def execContactLineChange (l : Line) (closed : Bool) (s : State) :
    Host.Outcome State Fault Refusal :=
  .next <|
    let c := s.seq.contact l
    let c' := match s.phase with
      | .running => c.move closed
      | .powerOn => { c with line := closed }
      | .pin => { c with line := closed }
      | .soft _ => { c with line := closed }
    { s with seq := s.seq.setContact l c' }

/-- The acceptance of a contact change, with the lock drive change it makes (R5, R6). -/
def acceptContact (l : Line) (s : State) : State :=
  let before := s.seq.lockDrive
  let s := { s with seq := s.seq.setContact l (s.seq.contact l).accept }
  let after := s.seq.lockDrive
  if before = after then s else lockDriveChange before after s

/-- CONTACT_ACCEPTED (R5): the line has held its new level for 5 ms. Without a change being timed there
is none to accept (assumption 5). -/
def execContactAccepted (l : Line) (s : State) : Host.Outcome State Fault Refusal :=
  .next <|
    match (s.seq.contact l).debounce with
    | some _ => acceptContact l s
    | none => s

/-! ### Timers (R8, R16, R21) -/

/-- The release limit has expired in RELEASING (R16). -/
def giveUpRelease (s : State) : State :=
  let s := { s with seq := { s.seq with holdOff := some 1000000 } }
  raise .lockReleaseTimeout 0 (enterEngaging .timeout s)

/-- RELEASE_LIMIT_EXPIRY (R16). It is an event of RELEASING with the lock limit timer running
(assumption 5). -/
def execReleaseLimitExpiry (s : State) : Host.Outcome State Fault Refusal :=
  .next <|
    match s.seq.mode, s.seq.lockLimit with
    | .releasing, some _ => giveUpRelease s
    | _, _ => s

/-- The engage limit has expired in ENGAGING (R21). -/
def failEngagement (s : State) : State :=
  let n := bump 3 s.seq.attemptCount
  let s := { s with seq := { s.seq with attemptCount := n, lockLimit := none } }
  if n < 3 then enterCapturing .timeout s else raise .lockEngageFailed 0 s

/-- ENGAGE_LIMIT_EXPIRY (R21). It is an event of ENGAGING with the lock limit timer running
(assumption 5). -/
def execEngageLimitExpiry (s : State) : Host.Outcome State Fault Refusal :=
  .next <|
    match s.seq.mode, s.seq.lockLimit with
    | .engaging, some _ => failEngagement s
    | _, _ => s

/-- RELEASE_HOLD_OFF_EXPIRY (R8): the timer stops; nothing else changes. -/
def execReleaseHoldOffExpiry (s : State) : Host.Outcome State Fault Refusal :=
  .next { s with seq := { s.seq with holdOff := none } }

/-! ### Directives (R9, R10, R11, R14, R25) -/

/-- The reason code of the first failing readiness check, or none when the part is ready; the quantity
states tested are those the most recent computation left (R10). -/
def State.unready (s : State) : Option Nat :=
  if s.bus.allJoined = false then some 1
  else if s.sel.lean.shown.state = .lost ∨ s.sel.rate.shown.state = .lost then some 2
  else if s.seq.lockDrive ≠ .engaged then some 3
  else if s.tables.generation = 0 then some 4
  else if s.faults.safeClassPresent then some 5
  else none

/-- ENABLE (R11). -/
def enable (s : State) : State × Done :=
  if s.seq.mode = .off then
    match s.unready with
    | some reason => (s, .plain .notReady reason)
    | none => (enterHeld .directive s, .plain .accepted 0)
  else (s, .plain .mode s.seq.mode.code)

/-- DISABLE (R14, Table 1-6). -/
def disable (s : State) : State × Done :=
  match s.seq.mode with
  | .off => (s, .plain .accepted 0)
  | .held => (enterOff .directive s, .plain .accepted 0)
  | .safe =>
    if s.seq.lockDrive = .engaged ∧ s.seq.lastSpeed < s.tuning.vCap then
      (requestSwap (enterOff .directive s), .plain .accepted 0)
    else (s, .plain .notStopped Mode.safe.code)
  | .releasing => (s, .plain .notStopped Mode.releasing.code)
  | .active => (s, .plain .notStopped Mode.active.code)
  | .capturing => (s, .plain .notStopped Mode.capturing.code)
  | .engaging => (s, .plain .notStopped Mode.engaging.code)

/-- RECOVER (R25). -/
def recover (s : State) : State × Done :=
  if s.seq.mode = .safe then
    if s.faults.safeClassPresent then (s, .plain .faultsPresent s.faults.lowestSafeClass)
    else
      let s := { s with seq := { s.seq with attemptCount := 0 } }
      if s.seq.lockDrive = .engaged then (enterHeld .directive s, .plain .accepted 0)
      else (enterCapturing .directive s, .plain .accepted 0)
  else (s, .plain .mode s.seq.mode.code)

/-- LOCK_HOLD (R9). -/
def lockHold (body : List Byte) (s : State) : State × Done :=
  let s := { s with seq := { s.seq with hostLock := flagAt body 0 } }
  (s, .plain .accepted (bit s.seq.lockRequested))

end Sys2Proof.Machine
end

