-- ==== Sys2Proof/Machine/Cycle.lean ====
section
/-! DEFINITION. The control cycle (R27, R28, R31, R47 to R49): the meanings of CONTROL_CYCLE_EXPIRY and
COMPUTATION_COMPLETE. -/

namespace Sys2Proof.Machine

/-- The law hands a current setpoint to each drive channel (R47). -/
def Drive.takeSetpoints (d : Drive) (r : Results) : Drive :=
  { d with tilt := { d.tilt with setpoint := r.iTilt }, steer := { d.steer with setpoint := r.iSteer } }

/-- A computation completes with its results: the setpoints, the results record, the cycle end, then
the trace sampling (R47, R48, R49). -/
def completeComputation (r : Results) (s : State) : State :=
  let s := { s with law := { s.law with computing := none, results := r },
                    drive := s.drive.takeSetpoints r }
  traceSample (cycleEnd s)

/-- The computation in progress, if there is one, completes. -/
def completeInProgress (s : State) : State :=
  match s.law.computing with
  | some c => completeComputation c.results s
  | none => s

/-- The number of the computation that starts: 0 for the first after a reset, else one more (R28). -/
def Law.nextCycle (l : Law) : Word := if l.started then l.cycle + 1 else 0

/-- A computation starts (R27 to R31): it takes its number, the mode, the active bank and the degrade
flag; stage 1 is served by the selector and the tracker; the law forms its results and its kept state,
and delivers the results at the completion (assumption 12). -/
def startComputation (s : State) : State :=
  let cycle := s.law.nextCycle
  let s := { s with law := { s.law with timer := some 2000, cycle := cycle, started := true } }
  let t : Taken := { mode := s.seq.mode, bank := s.tables.activeBank,
                     degrade := s.faults.degradeInForce }
  let sel := selectorStage t.mode s
  let tracked := trackerStage sel.1
  let s := tracked.1
  let x : Inputs := { served := sel.2, v := tracked.2,
                      deltaDot := rateOf sel.2.delta s.law.prevDelta,
                      torqueLost := s.sel.torque.state == .lost }
  let r := computeResults t x s.law.prevTilt s.law.prevSteer cycle
  { s with law := { s.law with prevTilt := r.tTilt, prevSteer := r.tSteer, prevDelta := sel.2.delta,
                               computing := some { results := r, age := 0 } } }

/-- CONTROL_CYCLE_EXPIRY (R27): a computation starts, at the counter's value (R109); with another value
there is no such expiry (assumption 5). Each computation completes before the next expiry, so one still in
progress completes first (assumption 12). The control cycle timer runs from the end of a reset
(assumption 5). -/
def execControlCycleExpiry (now : Stamp) (s : State) : Host.Outcome State Fault Refusal :=
  .next <|
    match s.law.timer with
    | some _ => if now = s.wheels.counter then startComputation (completeInProgress s) else s
    | none => s

/-- COMPUTATION_COMPLETE (R48, R49). Without a computation in progress there is none to complete
(assumption 5). -/
def execComputationComplete (s : State) : Host.Outcome State Fault Refusal :=
  .next <|
    match s.law.computing with
    | some c => completeComputation c.results s
    | none => s

end Sys2Proof.Machine
end

