-- ==== Sys2Proof/Machine/Calibration.lean ====
section
/-! DEFINITION. The calibration tables block (Chapter 3): the four LOAD directives, COMMIT_TABLES and
DISCARD_TABLES. -/

namespace Sys2Proof.Machine

/-- How many of the first n values lie outside lo..hi. -/
def outside (lo hi : Int) (f : Nat → Int) (n : Nat) : Nat :=
  match n with
  | 0 => 0
  | k + 1 => outside lo hi f k + (if f k < lo ∨ hi < f k then 1 else 0)

/-- A LOAD directive (R57): refused while a commit is pending, else the pending bank is written and the
clamped values are counted. -/
def load (write : Bank → Bank) (clamped : Nat) (s : State) : State × Done :=
  if s.tables.commitPending then (s, .plain .pendingCommit 0)
  else
    ({ s with tables := { s.tables with pendingBank := write s.tables.pendingBank } }, .clamped clamped)

/-! ### LOAD_AXES (R58) -/

/-- Speed breakpoint i as LOAD_AXES carries it. -/
def axesSpeed (body : List Byte) (i : Nat) : Int := signedAt body (2 * i)

/-- Steering breakpoint j as LOAD_AXES carries it. -/
def axesSteer (body : List Byte) (j : Nat) : Int := signedAt body (16 + 2 * j)

/-- LOAD_AXES (R58). -/
def loadAxes (body : List Byte) (s : State) : State × Done :=
  load
    (fun b => { b with speedAxis := tableOf fun i => clampInt 0 3000 (axesSpeed body i.val),
                       steerAxis := tableOf fun j => clampInt (-4000) 4000 (axesSteer body j.val) })
    (outside 0 3000 (axesSpeed body) 8 + outside (-4000) 4000 (axesSteer body) 9) s

/-! ### LOAD_MAP (R59) -/

/-- Entry n of the rows LOAD_MAP carries, row by row. -/
def mapEntry (body : List Byte) (n : Nat) : Int := signedAt body (2 + 2 * n)

/-- The lean map with the carried rows written. -/
def writeRows (body : List Byte) (first count : Nat) (m : Vector (Vector Int 9) 8) :
    Vector (Vector Int 9) 8 :=
  tableOf fun i =>
    if first ≤ i.val ∧ i.val < first + count then
      tableOf fun j => clampInt (-4500) 4500 (mapEntry body (9 * (i.val - first) + j.val))
    else m[i]

/-- LOAD_MAP (R59): row fields out of bounds are refused BAD_LENGTH. -/
def loadMap (body : List Byte) (s : State) : State × Done :=
  let first := byteAt body 0
  let count := byteAt body 1
  if first ≤ 7 ∧ 1 ≤ count ∧ count ≤ 8 ∧ first + count ≤ 8 then
    load (fun b => { b with leanMap := writeRows body first count b.leanMap })
      (outside (-4500) 4500 (mapEntry body) (9 * count)) s
  else (s, .plain .badLength 0)

/-! ### LOAD_SCHEDULE (R60) -/

/-- Value `column` of point k as LOAD_SCHEDULE carries it. -/
def scheduleValue (body : List Byte) (column k : Nat) : Nat := unsignedAt body (8 * k + 2 * column)

/-- Point k with its four values clamped (Table 3-2). -/
def schedulePoint (body : List Byte) (k : Nat) : SchedulePoint :=
  { speed := min 3000 (scheduleValue body 0 k), authority := min 1000 (scheduleValue body 1 k),
    steerGain := min 1000 (scheduleValue body 2 k), kds := min 100 (scheduleValue body 3 k) }

/-- LOAD_SCHEDULE (R60). -/
def loadSchedule (body : List Byte) (s : State) : State × Done :=
  load (fun b => { b with schedule := tableOf fun k => schedulePoint body k.val })
    (outside 0 3000 (fun k => scheduleValue body 0 k) 6
      + outside 0 1000 (fun k => scheduleValue body 1 k) 6
      + outside 0 1000 (fun k => scheduleValue body 2 k) 6
      + outside 0 100 (fun k => scheduleValue body 3 k) 6) s

/-! ### LOAD_TUNING (R61) -/

/-- The ranges of the tuning record, in the order of Table 3-3. -/
def tuningRanges : List (Nat × Nat) :=
  [(0, 2000), (0, 500), (0, 500), (0, 6000), (1, 6000), (0, 2500), (1, 2500), (1000, 4500),
   (50, 1000), (20, 900), (50, 500), (100, 3000), (0, 1000), (100, 3000), (100, 3000),
   (1000, 30000), (1000, 30000), (1000, 32000), (0, 4095), (0, 4095), (20000, 60000),
   (30000, 65000), (500, 1500)]

/-- Field n (from 0) of the tuning record LOAD_TUNING carries, clamped, with 1 where it was outside its
range. -/
def tuningField (body : List Byte) (n : Nat) : Nat × Nat :=
  let r := tuningRanges.getD n (0, 65535)
  clampCount r.1 r.2 (unsignedAt body (2 * n))

/-- The tuning record LOAD_TUNING carries, clamped (Table 3-3). -/
def tuningOf (body : List Byte) : Tuning :=
  let f (n : Nat) : Nat := (tuningField body n).1
  { kp := f 0, kd := f 1, kdSafe := f 2, tmaxTilt := f 3, slewTilt := f 4, tmaxSteer := f 5,
    slewSteer := f 6, ls := f 7, vRel := f 8, vCap := f 9, captureBand := f 10, captureRate := f 11,
    degradeCap := f 12, ktTilt := f 13, ktSteer := f 14, iLimitTilt := f 15, iLimitSteer := f 16,
    tripCurrent := f 17, kpi := f 18, ki := f 19, supplyLow := f 20, supplyHigh := f 21,
    hotLimit := f 22 }

/-- How many of the first n fields were outside their ranges. -/
def tuningClamped (body : List Byte) (n : Nat) : Nat :=
  match n with
  | 0 => 0
  | k + 1 => tuningClamped body k + (tuningField body k).2

/-- LOAD_TUNING (R61). -/
def loadTuning (body : List Byte) (s : State) : State × Done :=
  load (fun b => { b with tuning := tuningOf body }) (tuningClamped body 23) s

/-! ### COMMIT_TABLES and DISCARD_TABLES (R62, R66) -/

/-- The schedule speeds in order. -/
def Bank.scheduleSpeeds (b : Bank) : List Int := b.schedule.toList.map fun p => (p.speed : Int)

/-- The number of the first commit check that fails, or none when all pass (Table 3-5). -/
def Bank.failingCheck (b : Bank) : Option Nat :=
  if strictlyRising b.speedAxis.toList = false then some 1
  else if strictlyRising b.steerAxis.toList = false then some 2
  else if strictlyRising b.scheduleSpeeds = false then some 3
  else if b.tuning.vRel ≤ b.tuning.vCap then some 4
  else if b.tuning.supplyHigh ≤ b.tuning.supplyLow then some 5
  else none

/-- COMMIT_TABLES (R62). -/
def commitTables (s : State) : State × Done :=
  if s.tables.commitPending then (s, .plain .pendingCommit 0)
  else
    match s.tables.pendingBank.failingCheck with
    | some n => (s, .plain .invalidTables n)
    | none =>
      let s := { s with tables := { s.tables with commitPending := true } }
      if s.seq.mode = .off ∨ s.seq.mode = .held then (swap s, .plain .accepted 1)
      else (s, .plain .accepted 0)

/-- DISCARD_TABLES (R66). -/
def discardTables (s : State) : State × Done :=
  let t := s.tables
  let discarded : State :=
    { s with tables := { t with pendingBank := t.activeBank, commitPending := false } }
  if t.commitPending then (discarded, .plain .accepted 1)
  else if t.pendingBank = t.activeBank then (s, .plain .noPending 0)
  else (discarded, .plain .accepted 0)

end Sys2Proof.Machine
end

