-- ==== Sys2Proof/Machine/SensorBus.lean ====
section
/-! DEFINITION. The sensor bus master (Chapter 4): SET_BUS, SET_DEVICE and PASS_THROUGH, the rounds and
their polls, samples, pass-throughs, clears and the stuck bus; the meanings of its five commands. -/

namespace Sys2Proof.Machine

/-! ### Transactions on the wires (R69, R75, R82) -/

/-- The address byte: the 7-bit address and the direction bit, 1 for read. -/
def addressByte (address : Nat) (read : Bool) : Byte := byteOfNat (2 * address + bit read)

/-- n bytes received: all acknowledged but the last (R69). -/
def receives (n : Nat) : List BusElement :=
  match n with
  | 0 => []
  | k + 1 => List.replicate k (.receive true) ++ [.receive false]

/-- The register address bytes of an entry, most significant first (Table 4-1). -/
def DeviceConfig.registerBytes (c : DeviceConfig) : List Byte :=
  if c.regWidth = 1 then [byteOfNat c.regAddr]
  else [byteOfNat (c.regAddr / 256), byteOfNat c.regAddr]

/-- The wire form of a poll (R75). -/
def DeviceConfig.wire (c : DeviceConfig) : List BusElement :=
  [.start, .send (addressByte c.address false)] ++ c.registerBytes.map .send
    ++ [.repeatedStart, .send (addressByte c.address true)] ++ receives c.readLength ++ [.stop]

/-- The wire form of a pass-through (Table 4-3). -/
def PassThrough.wire (p : PassThrough) : List BusElement :=
  match p.writes, p.readCount with
  | [], 0 => [.start, .send (addressByte p.address false), .stop]
  | [], n + 1 => [.start, .send (addressByte p.address true)] ++ receives (n + 1) ++ [.stop]
  | w :: ws, 0 => [.start, .send (addressByte p.address false)] ++ (w :: ws).map .send ++ [.stop]
  | w :: ws, n + 1 =>
    [.start, .send (addressByte p.address false)] ++ (w :: ws).map .send
      ++ [.repeatedStart, .send (addressByte p.address true)] ++ receives (n + 1) ++ [.stop]

/-- The bit periods an element takes without stretching (R69, R86). -/
def BusElement.bitPeriods : BusElement → Nat
  | .start => 1
  | .repeatedStart => 1
  | .stop => 1
  | .clock => 1
  | .send _ => 9
  | .receive _ => 9

/-- The bit periods a wire form takes without stretching (R69). -/
def wireBitPeriods (l : List BusElement) : Nat := (l.map BusElement.bitPeriods).sum

/-- One bit period in ns: 1 µs or 2.5 µs (R68). -/
def BusSpeed.bitNs : BusSpeed → Nat
  | .mhz1 => 1000
  | .khz400 => 2500

/-! ### The lines (R68, R69) -/

/-- What the master leaves on the two lines: `true` where it releases the line, `false` where it drives it
low. -/
structure Lines where
  sda : Bool
  scl : Bool
deriving DecidableEq, Repr

/-- One bit: SDA takes its level, then SCL rises and falls. -/
def bitLines (sda : Bool) : List Lines := [⟨sda, false⟩, ⟨sda, true⟩, ⟨sda, false⟩]

/-- A byte's bits, most significant first (R69). -/
def byteBits (b : Byte) : List Bool := (List.range 8).map b.getMsbD

/-- What the master does to the lines in an element (R69, R86): a start is a fall of SDA and a stop a rise
of SDA while SCL is high; the side that receives a byte acknowledges it, low for an ACK. -/
def BusElement.lines : BusElement → List Lines
  | .start => [⟨true, true⟩, ⟨false, true⟩, ⟨false, false⟩]
  | .repeatedStart => [⟨true, false⟩, ⟨true, true⟩, ⟨false, true⟩, ⟨false, false⟩]
  | .stop => [⟨false, false⟩, ⟨false, true⟩, ⟨true, true⟩]
  | .send b => (byteBits b).flatMap bitLines ++ bitLines true
  | .receive ack => (List.replicate 8 true).flatMap bitLines ++ bitLines (!ack)
  | .clock => bitLines true

/-- A level the master reads on SDA; a line that nobody drives is high, for it is open drain (R68;
assumption 15). -/
def nextLevel (sda : List Bool) : Bool := sda.headD true

/-- The elements that take place, for the levels the master reads: a NACK to a byte it sends ends the
transaction at once, with a stop (R69). -/
def carriedOut (wire : List BusElement) (sda : List Bool) : List BusElement :=
  match wire with
  | [] => []
  | .send b :: w => if nextLevel sda then [.send b, .stop] else .send b :: carriedOut w sda.tail
  | .receive ack :: w => .receive ack :: carriedOut w (sda.drop 8)
  | .start :: w => .start :: carriedOut w sda
  | .repeatedStart :: w => .repeatedStart :: carriedOut w sda
  | .stop :: w => .stop :: carriedOut w sda
  | .clock :: w => .clock :: carriedOut w sda

/-- What the master does to the lines in a whole transaction or clear, for the levels it reads. -/
def Transaction.lines (x : Transaction) (sda : List Bool) : List Lines :=
  (carriedOut x.wire sda).flatMap BusElement.lines

/-! ### What the levels read come to (R69, R79, R82, R84) -/

/-- The byte of eight levels read, most significant bit first (R69). -/
def readByte (sda : List Bool) : Byte :=
  ((sda ++ List.replicate 8 true).take 8).foldl (fun b x => b <<< 1 ||| (if x then 1 else 0)) 0

/-- How a transaction ended (R79, R82, R85): every byte read, a NACK to an address byte, of the read or of
the write direction, a NACK to a written byte after `acked` acknowledged ones, or not begun. -/
inductive BusResult where
  | bytes (l : List Byte)
  | nackAddress (readDirection : Bool)
  | nackData (acked : Nat)
  | lineLow
deriving DecidableEq, Repr

/-- How the levels read end the elements still to come: `address` says that the next byte sent is an address
byte, `acked` counts the written bytes acknowledged, `got` holds the bytes received (R69). -/
def endOfWire (wire : List BusElement) (sda : List Bool) (address : Bool) (acked : Nat)
    (got : List Byte) : BusResult :=
  match wire with
  | [] => .bytes got
  | .send b :: w =>
    if nextLevel sda then (if address then .nackAddress (b.getLsbD 0) else .nackData acked)
    else endOfWire w sda.tail false (if address then acked else acked + 1) got
  | .receive _ :: w => endOfWire w (sda.drop 8) address acked (got ++ [readByte sda])
  | .start :: w => endOfWire w sda true acked got
  | .repeatedStart :: w => endOfWire w sda true acked got
  | .stop :: w => endOfWire w sda address acked got
  | .clock :: w => endOfWire w sda address acked got

/-- How a transaction ended, by what the master found on the lines (R69, R84, R85). -/
def Transaction.result (x : Transaction) (a : BusAnswer) : BusResult :=
  match a with
  | .levels sda => endOfWire x.wire sda false 0 []
  | .lineLow => .lineLow

/-! ### What runs next (R75, R76, R81) -/

/-- The device at an index. -/
def Bus.device (b : Bus) (i : Fin 6) : Device := b.devices[i]

/-- The bus master with one device replaced. -/
def Bus.setDevice (b : Bus) (i : Fin 6) (d : Device) : Bus :=
  { b with devices := b.devices.set i.val d i.isLt }

/-- The index lies above the round's previous poll. -/
def above (last : Option (Fin 6)) (i : Fin 6) : Bool :=
  match last with
  | none => true
  | some j => decide (j.val < i.val)

/-- The lowest enabled index above the round's previous poll (R75). -/
def Bus.nextEnabled (b : Bus) (last : Option (Fin 6)) : Option (Fin 6) :=
  [0, 1, 2, 3, 4, 5].find? fun i => above last i && (b.device i).cfg.enabled

/-- A poll begins for an entry (R75). -/
def Bus.startPoll (b : Bus) (i : Fin 6) : Bus :=
  { b with activity := .poll i false false { speed := b.speed, wire := (b.device i).cfg.wire } }

/-- The oldest queued pass-through begins, unless the round has had one (R81). -/
def Bus.startPass (b : Bus) : Bus :=
  match b.passUsed, b.queue with
  | false, p :: _ =>
    { b with activity := .passThrough { speed := b.speed, wire := p.wire }, passUsed := true }
  | false, [] => b
  | true, _ => b

/-- The free bus takes up its work: the round's next poll, or with its polls done a pass-through
(R75, R76, R81). A round whose remaining entries SET_DEVICE has disabled while the bus was held has its polls
done when the bus becomes free (DEDUCED, assumption 38). -/
def Bus.next (b : Bus) : Bus :=
  match b.stuck, b.activity with
  | false, .idle =>
    match b.round with
    | .notStarted => b
    | .polling last =>
      match b.nextEnabled last with
      | some i => b.startPoll i
      | none => ({ b with round := .done } : Bus).startPass
    | .done => b.startPass
  | _, _ => b

/-- The bus is freed and takes up its work. -/
def Bus.free (b : Bus) : Bus := ({ b with activity := .idle } : Bus).next

/-- A clear begins at the present speed (R86). -/
def Bus.startClear (b : Bus) : Bus := { b with activity := .clear (.clearAt b.speed) }

/-- Put the bus master's state in place. -/
def setBusState (b : Bus) (s : State) : State := { s with bus := b }

/-! ### Rounds (R74, R76, R87) -/

/-- The age after an age step: one more, saturating at 255; never stays never (R74). -/
def agedBy (age : Option Nat) : Option Nat :=
  match age with
  | none => none
  | some n => some (bump 255 n)

/-- The age is never or greater than the stale limit. -/
def staleAge (limit : Nat) (age : Option Nat) : Bool :=
  match age with
  | none => true
  | some n => decide (limit < n)

/-- The age step of one entry (R74); disabled entries are not aged. -/
def Device.ageStep (d : Device) : Device :=
  if d.cfg.enabled then
    let age := if d.run.sampled then d.run.age else agedBy d.run.age
    { d with run := { d.run with age := age, sampled := false,
                                 joined := d.run.joined && !staleAge d.cfg.staleLimit age } }
  else d

/-- An expiry ends the round of a poll on the bus (R76). -/
def BusActivity.endRound : BusActivity → BusActivity
  | .idle => .idle
  | .poll i _ discard t => .poll i true discard t
  | .passThrough t => .passThrough t
  | .clear t => .clear t

/-- A round timer expiry: the age step, the new round, then its polls or, on a stuck bus, the retried
clear (R74, R76, R87). On a STUCK bus with a clear in progress that clear goes on, and serves as this expiry's
retry (DEDUCED, assumption 39). -/
def Bus.expiry (b : Bus) : Bus :=
  let b := { b with timer := some 2000, devices := tableMap Device.ageStep b.devices,
                    activity := b.activity.endRound, passUsed := false }
  let b := { b with round := if b.presentByte = 0 then .done else .polling none }
  match b.stuck, b.activity with
  | true, .idle => b.startClear
  | _, _ => b.next

/-- ROUND_TIMER_EXPIRY (R74). The round timer runs from the end of a reset (assumption 5). -/
def execRoundTimerExpiry (s : State) : Host.Outcome State Fault Refusal :=
  .next <|
    match s.bus.timer with
    | some _ => setBusState s.bus.expiry s
    | none => s

/-! ### Samples (R77, R78, R79) -/

/-- The raw value of the bytes read (R77). -/
def DeviceConfig.raw (c : DeviceConfig) (bytes : List Byte) : Int :=
  let a := bytes.getD c.rawPos 0
  let b := bytes.getD (c.rawPos + 1) 0
  if c.little then (joinBytes a b).toInt else (joinBytes b a).toInt

/-- The decoded value (R77). -/
def DeviceConfig.decode (c : DeviceConfig) (bytes : List Byte) : Int :=
  c.quantity.saturate (rdiv (c.raw bytes * c.gain) 256 + c.offset)

/-- The status check passes (R78). -/
def DeviceConfig.statusPasses (c : DeviceConfig) (bytes : List Byte) : Bool :=
  match c.status with
  | none => true
  | some st => (bytes.getD st.offset 0 &&& st.mask) == st.expected

/-- The step check passes (R78). -/
def Device.stepPasses (d : Device) (value : Int) : Bool :=
  d.cfg.maxStep == 0 || !d.run.joined || decide ((value - d.run.last).natAbs ≤ d.cfg.maxStep)

/-- A miss (Table 4-2). -/
def Device.miss (d : Device) : Device :=
  { d with run := { d.run with misses := bump 255 d.run.misses } }

/-- A valid sample (Table 4-2). -/
def Device.valid (d : Device) (value : Int) : Device :=
  { d with run := { d.run with last := value, age := some 0, joined := true, sampled := true } }

/-- A sample of the bytes read (R77, R78, R79). -/
def Device.sample (d : Device) (bytes : List Byte) : Device :=
  let value := d.cfg.decode bytes
  if d.cfg.statusPasses bytes && d.stepPasses value then d.valid value else d.miss

/-- The completion of a poll acts on its entry (Table 4-2). -/
def Device.complete (d : Device) (r : BusResult) : Device :=
  match r with
  | .bytes l => d.sample l
  | .nackAddress _ => d.miss
  | .nackData _ => d.miss
  | .lineLow => d.miss

/-- The round after a poll of an entry has completed: a poll of an old round leaves it as it stands
(R75, R76). -/
def Bus.afterPoll (b : Bus) (i : Fin 6) (oldRound : Bool) : Bus :=
  if oldRound then b
  else
    { b with round := match b.nextEnabled (some i) with
                      | some _ => .polling (some i)
                      | none => .done }

/-- A transaction's end needs a clear: a line was low before the start, or the stop did not form
(R84, R85). -/
def needsClear (r : BusResult) (stopFormed : Bool) : Bool :=
  match r with
  | .lineLow => true
  | .bytes _ => !stopFormed
  | .nackAddress _ => !stopFormed
  | .nackData _ => !stopFormed

/-- What the bus does after a transaction: a clear, or its next work. -/
def Bus.afterTransaction (b : Bus) (clear : Bool) : Bus := if clear then b.startClear else b.free

/-- A poll completes: its entry, its round, then the bus (R79). -/
def Bus.finishPoll (b : Bus) (i : Fin 6) (oldRound discard : Bool) (act : Device → Device)
    (clear : Bool) : Bus :=
  let b := if discard then b else b.setDevice i (act (b.device i))
  (b.afterPoll i oldRound).afterTransaction clear

/-- POLL_COMPLETE (R79). Without a poll on the bus there is none to complete (assumption 5). -/
def execPollComplete (a : BusAnswer) (stopFormed : Bool) (s : State) :
    Host.Outcome State Fault Refusal :=
  .next <|
    match s.bus.activity with
    | .poll i oldRound discard x =>
      let r := x.result a
      setBusState (s.bus.finishPoll i oldRound discard (fun d => d.complete r)
        (needsClear r stopFormed)) s
    | .idle => s
    | .passThrough _ => s
    | .clear _ => s

/-! ### Pass-throughs (R80 to R83) -/

/-- The outcome of a pass-through that the bus has answered (R82, R85, Table 11-6; assumption 25). -/
def PassThrough.outcome (p : PassThrough) (r : BusResult) : Done :=
  match r with
  | .bytes l => { outcome := .done, detail := p.readCount, data := l }
  | .nackAddress readDirection => .plain .nackAddress (bit readDirection)
  | .nackData acked => .plain .nackData acked
  | .lineLow => .plain .busTimeout 2

/-- Stage DIRECTIVE_DONE for a pass-through (R83). -/
def stagePassDone (p : PassThrough) (d : Done) (s : State) : State :=
  stage (.directiveDone p.tag 18 d.outcome d.detail d.data) s

/-- The pass-through on the bus completes: its DIRECTIVE_DONE is staged and it leaves the head of the
queue; then the bus goes on (R83). -/
def finishPass (outcome : PassThrough → Done) (clear : Bool) (s : State) : State :=
  match s.bus.queue with
  | p :: rest =>
    let s := stagePassDone p (outcome p) s
    setBusState (({ s.bus with queue := rest } : Bus).afterTransaction clear) s
  | [] => setBusState (s.bus.afterTransaction clear) s

/-- A pass-through that found a line low before its start was not begun, so it is no start of the
round's one pass-through (R81, R85; DEDUCED, assumption 36). -/
def Bus.passNotBegun (r : BusResult) (b : Bus) : Bus :=
  match r with
  | .lineLow => { b with passUsed := false }
  | .bytes _ => b
  | .nackAddress _ => b
  | .nackData _ => b

/-- PASS_THROUGH_COMPLETE (R83). Without a pass-through on the bus there is none to complete
(assumption 5). -/
def execPassThroughComplete (a : BusAnswer) (stopFormed : Bool) (s : State) :
    Host.Outcome State Fault Refusal :=
  .next <|
    match s.bus.activity with
    | .passThrough x =>
      let r := x.result a
      finishPass (fun p => p.outcome r) (needsClear r stopFormed) (setBusState (s.bus.passNotBegun r) s)
    | .idle => s
    | .poll _ _ _ _ => s
    | .clear _ => s

/-! ### Clears and the stuck bus (R84, R86, R87, R88) -/

/-- Every queued transaction completes with BUS_TIMEOUT and detail 1, in queue order (R87). -/
def stageTimeouts (l : List PassThrough) (s : State) : State :=
  match l with
  | [] => s
  | p :: rest => stageTimeouts rest (stagePassDone p (.plain .busTimeout 1) s)

/-- A clear has failed: a READY bus goes STUCK, a STUCK bus gives up its queue; the round ends
(R86, R87). -/
def clearFailed (s : State) : State :=
  if s.bus.stuck then
    let s := stageTimeouts s.bus.queue s
    setBusState { s.bus with activity := .idle, round := .done, queue := [] } s
  else
    raise .sensorBusStuck 0
      (setBusState { s.bus with activity := .idle, round := .done, stuck := true } s)

/-- A clear has left both lines high: the bus is READY, a STUCK one ends SENSOR_BUS_STUCK, and work
resumes (R86, R88). -/
def clearSucceeded (s : State) : State :=
  let ended := if s.bus.stuck then endFault .sensorBusStuck s else s
  setBusState ({ ended.bus with stuck := false } : Bus).free ended

/-- The end of a clear, by the levels the lines then read (R86). -/
def finishClear (sdaHigh sclHigh : Bool) (s : State) : State :=
  if sdaHigh && sclHigh then clearSucceeded s else clearFailed s

/-- BUS_CLEAR_COMPLETE (R86). Without a clear in progress there is none to complete (assumption 5). -/
def execBusClearComplete (sdaHigh sclHigh : Bool) (s : State) : Host.Outcome State Fault Refusal :=
  .next <|
    match s.bus.activity with
    | .clear _ => finishClear sdaHigh sclHigh s
    | .idle => s
    | .poll _ _ _ _ => s
    | .passThrough _ => s

/-- SCL_HOLD_TIMEOUT (R84, R86): a poll counts a miss, a pass-through ends BUS_TIMEOUT with detail 0,
and the bus is cleared; a clear gives up and reads the lines. -/
def execSclHoldTimeout (sdaHigh sclHigh : Bool) (s : State) : Host.Outcome State Fault Refusal :=
  .next <|
    match s.bus.activity with
    | .poll i oldRound discard _ =>
      setBusState (s.bus.finishPoll i oldRound discard Device.miss true) s
    | .passThrough _ => finishPass (fun _ => .plain .busTimeout 0) true s
    | .clear _ => finishClear sdaHigh sclHigh s
    | .idle => s

/-! ### Directives (R68, R72, R73, R80) -/

/-- SET_BUS (R68). -/
def setBusSpeed (body : List Byte) (s : State) : State × Done :=
  if s.seq.mode = .off then
    let code := byteAt body 0
    let speed := if code = 0 then BusSpeed.mhz1 else BusSpeed.khz400
    (setBusState { s.bus with speed := speed } s, .clamped (if 1 < code then 1 else 0))
  else (s, .plain .mode s.seq.mode.code)

/-- The miss counts and ages of the six entries, an age of never as 255 (R73). -/
def Bus.missesAndAges (b : Bus) : List Byte :=
  b.devices.toList.flatMap fun d => [byteOfNat d.run.misses, byteOfNat (d.run.age.getD 255)]

/-- A signed value clamped to lo..hi, with 1 where it lay outside. -/
def clampCountInt (lo hi x : Int) : Int × Nat :=
  (clampInt lo hi x, if x < lo ∨ hi < x then 1 else 0)

/-- The status byte offset of a SET_DEVICE body, clamped, where the check is present (R186). -/
def statusOffset (body : List Byte) : Option (Nat × Nat) :=
  if flagAt body 14 then some (clampCount 0 7 (byteAt body 15)) else none

/-- A length raised to a least one, with 1 where it was raised (R72). -/
def raiseLength (least n : Nat) : Nat × Nat := if n < least then (least, 1) else (n, 0)

/-- The configuration a SET_DEVICE body gives an entry, with the count of clamped fields (R72,
Table 11-4). -/
def deviceConfigOf (body : List Byte) : DeviceConfig × Nat :=
  let address := clampCount 0 127 (byteAt body 2)
  let width := clampCount 1 2 (byteAt body 3)
  let reg := clampCount 0 (if width.1 = 1 then 255 else 65535) (unsignedAt body 4)
  let len := clampCount 1 8 (byteAt body 6)
  let quantity := Quantity.ofCode (byteAt body 7)
  let pos := clampCount 0 6 (byteAt body 8)
  let offset := clampCountInt quantity.lo quantity.hi (signedAt body 12)
  let status := statusOffset body
  let step := clampCount 0 9000 (unsignedAt body 18)
  let stale := clampCount 1 50 (byteAt body 20)
  let len1 := raiseLength (pos.1 + 2) len.1
  let len2 := match status with
    | some o => raiseLength (o.1 + 1) len1.1
    | none => (len1.1, 0)
  let statusCount := match status with
    | some o => o.2
    | none => 0
  ({ enabled := flagAt body 1, address := address.1, regWidth := width.1, regAddr := reg.1,
     readLength := len2.1, quantity := quantity, rawPos := pos.1, little := flagAt body 9,
     gain := signedAt body 10, offset := offset.1,
     status := status.map fun o =>
       { offset := o.1, mask := body.getD 16 0, expected := body.getD 17 0 },
     maxStep := step.1, staleLimit := stale.1 },
   address.2 + width.2 + reg.2 + len.2 + (if 3 < byteAt body 7 then 1 else 0) + pos.2 + offset.2
     + statusCount + step.2 + stale.2 + len1.2 + len2.2)

/-- An entry written by SET_DEVICE: the last value is kept, the other run-time fields return to their
reset values (R72). -/
def Device.rewritten (d : Device) (c : DeviceConfig) : Device :=
  { cfg := c, run := { last := d.run.last, age := none, misses := 0, joined := false,
                       sampled := false } }

/-- A poll of the entry on the bus has its result discarded (R72). -/
def BusActivity.discardFor (i : Fin 6) : BusActivity → BusActivity
  | .poll j oldRound discard t => .poll j oldRound (discard || i == j) t
  | .idle => .idle
  | .passThrough t => .passThrough t
  | .clear t => .clear t

/-- SET_DEVICE (R72, R73). -/
def setDevice (body : List Byte) (s : State) : State × Done :=
  if h : byteAt body 0 < 6 then
    let i : Fin 6 := ⟨byteAt body 0, h⟩
    let data := s.bus.missesAndAges
    if s.seq.mode = .off then
      let c := deviceConfigOf body
      let b := s.bus.setDevice i ((s.bus.device i).rewritten c.1)
      (setBusState { b with activity := b.activity.discardFor i } s,
       { Done.clamped c.2 with data := data })
    else (s, { outcome := .mode, detail := s.seq.mode.code, data := data })
  else (s, .plain .badLength 0)

/-- PASS_THROUGH as it is taken (R80): refused, or queued without an answer yet. -/
def passThrough (tag : Byte) (body : List Byte) (s : State) : State × Option Done :=
  let writeCount := byteAt body 1
  let readCount := byteAt body 2
  if 12 < writeCount ∨ 12 < readCount then (s, some (.plain .badLength 0))
  else if 4 ≤ s.bus.queue.length then (s, some (.plain .queueFull 4))
  else
    let p : PassThrough := { tag := tag, address := byteAt body 0 % 128,
                             writes := (body.drop 3).take writeCount, readCount := readCount }
    (setBusState ({ s.bus with queue := s.bus.queue ++ [p] } : Bus).next s, none)

end Sys2Proof.Machine
end

