-- ==== Sys2Proof/Machine/Conversion.lean ====
section
/-! DEFINITION. The conversion unit (Chapter 7): the scaling of raw counts, the threshold runs and their
three conditions; the meanings of NORMAL_CONVERSION_COMPLETE and INJECTED_TRIGGER. -/

namespace Sys2Proof.Machine

/-! ### Scaling (R123, R124) -/

/-- A supply result in mV. -/
def supplyOf (raw : BitVec 12) : Int := raw.toNat * 16

/-- A temperature result in 0.1 °C. -/
def temperatureOf (raw : BitVec 12) : Int := raw.toNat - 745

/-- A current result in mA. -/
def currentOf (raw : BitVec 12) : Int := ((raw.toNat : Int) - 2048) * 15

/-- A potentiometer result: the raw count while the logic supply lies within 3000..3600 mV, else 0
(R124). -/
def potOf (logic : Int) (raw : BitVec 12) : Int :=
  if 3000 ≤ logic ∧ logic ≤ 3600 then raw.toNat else 0

/-! ### Threshold runs (R125, R126, R127) -/

/-- What a sample does to a condition. -/
inductive Crossing where
  | stays | sets | clears
deriving DecidableEq, Repr

/-- A sample advances a run: `beyond` counts toward the condition while it is not raised, `back` toward
its end while it is; the tenth in succession crosses. -/
def ThresholdRun.sample (beyond back : Bool) (r : ThresholdRun) : ThresholdRun × Crossing :=
  if r.raised then
    if back then
      if r.run + 1 < 10 then ({ r with run := r.run + 1 }, .stays)
      else ({ raised := false, run := 0 }, .clears)
    else ({ r with run := 0 }, .stays)
  else if beyond then
    if r.run + 1 < 10 then ({ r with run := r.run + 1 }, .stays)
    else ({ raised := true, run := 0 }, .sets)
  else ({ r with run := 0 }, .stays)

/-- Raise or end a supply kind as its run crosses. -/
def applyCrossing (k : FaultKind) (c : Crossing) (s : State) : State :=
  match c with
  | .stays => s
  | .sets => raise k 0 s
  | .clears => endFault k s

/-- Put the conversion unit's state in place. -/
def setConv (c : Converter) (s : State) : State := { s with conv := c }

/-- An AN0 sample at SUPPLY_LOW (R125). -/
def sampleLow (mv : Int) (s : State) : State :=
  let limit : Int := s.tuning.supplyLow
  let r := s.conv.low.sample (decide (mv < limit)) (decide (limit + 1000 ≤ mv))
  applyCrossing .supplyLow r.2 (setConv { s.conv with low := r.1 } s)

/-- An AN0 sample at SUPPLY_HIGH (R126). -/
def sampleHigh (mv : Int) (s : State) : State :=
  let limit : Int := s.tuning.supplyHigh
  let r := s.conv.high.sample (decide (limit < mv)) (decide (mv ≤ limit - 1000))
  applyCrossing .supplyHigh r.2 (setConv { s.conv with high := r.1 } s)

/-- The hot run of a bridge. -/
def Converter.hot (c : Converter) : Bridge → ThresholdRun
  | .tilt => c.hotTilt
  | .steer => c.hotSteer

/-- The conversion unit with one hot run replaced. -/
def Converter.setHot (c : Converter) (b : Bridge) (r : ThresholdRun) : Converter :=
  match b with
  | .tilt => { c with hotTilt := r }
  | .steer => { c with hotSteer := r }

end Sys2Proof.Machine

namespace Sys2Proof

/-- The other bridge. -/
def Bridge.other : Bridge → Bridge
  | .tilt => .steer
  | .steer => .tilt

end Sys2Proof

namespace Sys2Proof.Machine

/-- A temperature sample of a bridge (R127): BRIDGE_HOT is raised when a flag is set while the other is
clear, and ended when a flag is cleared while the other is clear. -/
def sampleHot (b : Bridge) (temp : Int) (s : State) : State :=
  let limit : Int := s.tuning.hotLimit
  let r := (s.conv.hot b).sample (decide (limit < temp)) (decide (temp < limit - 100))
  let otherHot := (s.conv.hot b.other).raised
  let s := setConv (s.conv.setHot b r.1) s
  match r.2, otherHot with
  | .sets, false => raise .bridgeHot b.code s
  | .clears, false => endFault .bridgeHot s
  | .sets, true => s
  | .clears, true => s
  | .stays, _ => s

/-! ### The normal chain (R119) -/

/-- The chain's next channel. -/
def NormalChannel.next : NormalChannel → NormalChannel
  | .an0 => .an1 | .an1 => .an2 | .an2 => .an3 | .an3 => .an4 | .an4 => .an5 | .an5 => .an0

/-- A completed conversion replaces the result of its channel (R118, R123, R124). -/
def Converter.store (c : Converter) (raw : BitVec 12) : Converter :=
  match c.position with
  | .an0 => { c with supply := supplyOf raw }
  | .an1 => { c with tiltTemp := temperatureOf raw }
  | .an2 => { c with steerTemp := temperatureOf raw }
  | .an3 => { c with leanPot := potOf c.logic raw }
  | .an4 => { c with steerPot := potOf c.logic raw }
  | .an5 => { c with logic := supplyOf raw }

/-- A completed conversion hands its sample to the threshold runs that watch the channel (R119); an AN0
sample updates SUPPLY_LOW's run, then SUPPLY_HIGH's (assumption 20). -/
def watch (channel : NormalChannel) (s : State) : State :=
  match channel with
  | .an0 => sampleHigh s.conv.supply (sampleLow s.conv.supply s)
  | .an1 => sampleHot .tilt s.conv.tiltTemp s
  | .an2 => sampleHot .steer s.conv.steerTemp s
  | .an3 => s
  | .an4 => s
  | .an5 => s

/-- NORMAL_CONVERSION_COMPLETE (R119): the result, the next conversion's start, then the runs. Without a
normal conversion in progress there is none to complete (assumption 5). -/
def execNormalConversionComplete (raw : BitVec 12) (s : State) : Host.Outcome State Fault Refusal :=
  .next <|
    match s.conv.normal with
    | some _ =>
      let channel := s.conv.position
      watch channel
        (setConv { s.conv.store raw with position := channel.next, normal := some 10 } s)
    | none => s

/-- INJECTED_TRIGGER (R120, R121): the injected chain takes the converter, and a normal conversion in
progress is discarded. The period timer runs from the end of a reset (assumption 5). -/
def execInjectedTrigger (s : State) : Host.Outcome State Fault Refusal :=
  .next <|
    match s.conv.centre with
    | some _ =>
      setConv { s.conv with centre := some 50, normal := none, injected := some 16 } s
    | none => s

end Sys2Proof.Machine
end

