-- ==== Sys2Proof/Machine/Channels.lean ====
section
/-! DEFINITION. The bridge drive channels and the solenoid stage (Chapter 8): the current loop and the
over-current trip; the meanings of INJECTED_COMPLETE, PWM_PERIOD_START and SOLENOID_PULL_IN_EXPIRY. -/

namespace Sys2Proof.Machine

/-- Both are above 0, or both are below 0. -/
def sameSign (a b : Int) : Bool := (decide (0 < a) && decide (0 < b)) || (decide (a < 0) && decide (b < 0))

/-- The loop's output for an error and an integrator, before its clamp (R137, R138). -/
def loopOutput (kpi : Nat) (e integrator : Int) : Int := rdiv (kpi * e + integrator) 4096

/-- The integrator a step leaves (R137, R138 step 4). -/
def nextIntegrator (kpi ki : Nat) (e integrator : Int) : Int :=
  let test := loopOutput kpi e integrator
  if 950 < test.natAbs ∧ sameSign test e = true then integrator
  else clampSym 3891200 (integrator + ki * e)

/-- One loop step with a measured current (R137, R138). -/
def Channel.loopStep (c : Channel) (u : Tuning) (measured : Int) : Channel :=
  let e := c.setpoint - measured
  let integrator := nextIntegrator u.kpi u.ki e c.integrator
  { c with integrator := integrator, duty := clampSym 950 (loopOutput u.kpi e integrator) }

/-- The trip: the channel is TRIPPED with duty, applied duty and run 0, the integrator kept (R140). -/
def Channel.trip (c : Channel) : Channel :=
  { c with state := .tripped, duty := 0, applied := 0, overRun := 0 }

/-- What an ON channel makes of a measured current: the record it leaves, and whether it trips (R137 to
R140). -/
def Channel.take (c : Channel) (u : Tuning) (measured : Int) : Channel × Bool :=
  if u.tripCurrent < measured.natAbs then
    if c.overRun + 1 < 3 then (({ c with overRun := c.overRun + 1 } : Channel).loopStep u measured, false)
    else (c.trip, true)
  else (({ c with overRun := 0 } : Channel).loopStep u measured, false)

/-- The measured current of a bridge. -/
def Converter.current (c : Converter) : Bridge → Int
  | .tilt => c.tiltCurrent
  | .steer => c.steerCurrent

/-- A channel takes an injected conversion completion; a trip raises its over-current kind in the same
event (R137, R141). -/
def channelTake (b : Bridge) (s : State) : State :=
  let c := s.drive.channel b
  match c.state with
  | .on =>
    let r := c.take s.tuning (s.conv.current b)
    let s := { s with drive := s.drive.setChannel b r.1 }
    if r.2 then raise b.overcurrent 0 s else s
  | .off => s
  | .tripped => s

/-- INJECTED_COMPLETE (R122): both currents are replaced together, the normal chain resumes, and each
channel takes its current, `first` before the other (R135; assumption 18). Without an injected chain in
progress there is none to complete (assumption 5). -/
def execInjectedComplete (rawTilt rawSteer : BitVec 12) (first : Bridge) (s : State) :
    Host.Outcome State Fault Refusal :=
  .next <|
    match s.conv.injected with
    | some _ =>
      let s := setConv { s.conv with tiltCurrent := currentOf rawTilt,
                                     steerCurrent := currentOf rawSteer, injected := none,
                                     normal := some 10 } s
      channelTake first.other (channelTake first s)
    | none => s

/-- A channel that is ON loads its applied duty from its duty (R132). -/
def Channel.load (c : Channel) : Channel :=
  match c.state with
  | .on => { c with applied := c.duty }
  | .off => c
  | .tripped => c

/-- A period starts: the channels load, and HOLD drives its level from here on (R132, R142). -/
def Drive.periodStart (d : Drive) : Drive :=
  { d with tilt := d.tilt.load, steer := d.steer.load, period := some 50,
           holdDriven := match d.stage with
             | .hold => true
             | .off => d.holdDriven
             | .pullIn => d.holdDriven }

/-- PWM_PERIOD_START (R132). The periods run from the end of a reset (assumption 5). -/
def execPwmPeriodStart (s : State) : Host.Outcome State Fault Refusal :=
  .next <|
    match s.drive.period with
    | some _ => { s with drive := s.drive.periodStart }
    | none => s

/-- SOLENOID_PULL_IN_EXPIRY (R142): PULL-IN becomes HOLD. A stopped timer has no expiry
(assumption 5). -/
def execSolenoidPullInExpiry (s : State) : Host.Outcome State Fault Refusal :=
  .next <|
    match s.drive.stage, s.drive.pullIn with
    | .pullIn, some _ =>
      { s with drive := { s.drive with stage := .hold, pullIn := none, holdDriven := false } }
    | _, _ => s

end Sys2Proof.Machine
end

