-- ==== Sys2Proof/Machine/FaultTable.lean ====
section
/-! DEFINITION. The fault monitor's directives ACK_FAULT, CLEAR_FAULT and SET_FAULT_POLICY (R153 to
R155), and the meanings of ACK_TIMER_EXPIRY and FLTN_MIN_TIMER_EXPIRY. -/

namespace Sys2Proof.Machine

/-- A kind's record with the acknowledged flag set and its timer stopped (R153). -/
def FaultRecord.acknowledge (r : FaultRecord) : FaultRecord :=
  { r with acknowledged := true, ackTimer := none }

/-- ACK_FAULT (R153). -/
def ackFault (body : List Byte) (s : State) : State × Done :=
  match FaultKind.ofCode (byteAt body 0) with
  | none => (s, .plain .badLength 0)
  | some k =>
    let r := s.faults.get k
    match r.state with
    | .clear => (s, .plain .noPending 0)
    | .active => (putFault k r.acknowledge s, .plain .accepted 0)
    | .latched => (putFault k r.acknowledge s, .plain .accepted 0)

/-- CLEAR_FAULT (R154). -/
def clearFault (body : List Byte) (s : State) : State × Done :=
  match FaultKind.ofCode (byteAt body 0) with
  | none => (s, .plain .badLength 0)
  | some k =>
    match (s.faults.get k).state with
    | .clear => (s, .plain .noPending 0)
    | .active => (s, .plain .accepted 1)
    | .latched => (clearKind k s, .plain .accepted 0)

/-- The greater of two reactions. -/
def Reaction.atLeast (floor r : Reaction) : Reaction := if r.code < floor.code then floor else r

/-- A kind's record after a policy write: a CLEAR kind's reaction and timeout in force take the policy
too (R155). -/
def FaultRecord.withPolicy (r : FaultRecord) (reaction : Reaction) (timeout : Nat) : FaultRecord :=
  let p := { r with policyReaction := reaction, policyTimeout := timeout }
  match r.state with
  | .clear => { p with reaction := reaction, timeout := timeout }
  | .active => p
  | .latched => p

/-- SET_FAULT_POLICY (R155). -/
def setFaultPolicy (body : List Byte) (s : State) : State × Done :=
  match FaultKind.ofCode (byteAt body 0) with
  | none => (s, .plain .badLength 0)
  | some k =>
    let code := byteAt body 1
    let asked := Reaction.ofCode code
    let reaction := asked.atLeast k.floor
    let clamped := if 2 < code ∨ asked.code < k.floor.code then 1 else 0
    (putFault k ((s.faults.get k).withPolicy reaction (byteAt body 2)) s, .clamped clamped)

/-- ACK_TIMER_EXPIRY (R152). A stopped timer has no expiry (assumption 5). -/
def execAckTimerExpiry (k : FaultKind) (s : State) : Host.Outcome State Fault Refusal :=
  .next <|
    match (s.faults.get k).ackTimer with
    | some _ => escalate k s
    | none => s

/-- FLTN_MIN_TIMER_EXPIRY (R156): the timer stops; the line is active from then on only while a
qualifying kind holds it. -/
def execFltnMinTimerExpiry (s : State) : Host.Outcome State Fault Refusal :=
  .next { s with faults := { s.faults with minTimer := none } }

end Sys2Proof.Machine
end

