-- ==== Sys2Proof/Machine/Directives.lean ====
section
/-! DEFINITION. The exchange port's own directives (R176, R177), the common decode (R185), the delivery
of a directive to its owner (Table 10-2), and DIRECTIVE_DONE (R172, R187). -/

namespace Sys2Proof.Machine

/-! ### SET_REPORT_MAP and SET_TRACE -/

/-- The destination of the kind at an index of a SET_REPORT_MAP body, with 1 where it was clamped. -/
def clampDestination (body : List Byte) (i : Nat) : Destination × Nat :=
  let code := byteAt body i
  (Destination.ofCode code, if 2 < code then 1 else 0)

/-- FAULT_CHANGED always goes to EVENT: any other code is clamped. -/
def clampFaultDestination (body : List Byte) : Nat := if byteAt body 2 = 0 then 0 else 1

/-- SET_REPORT_MAP (R176). -/
def setReportMap (body : List Byte) (s : State) : State × Done :=
  let d (i : Nat) : Destination × Nat := clampDestination body i
  let m : ReportMap :=
    { directiveDone := (d 0).1, modeChanged := (d 1).1, faultChanged := .event,
      sourceChanged := (d 3).1, tablesSwapped := (d 4).1, trace := (d 5).1 }
  ({ s with port := { s.port with map := m } },
   .clamped ((d 0).2 + (d 1).2 + clampFaultDestination body + (d 3).2 + (d 4).2 + (d 5).2))

/-- The codes SET_TRACE keeps: of the first eight, those in 1..30, in order (R177). -/
def keptCodes (codes : List Byte) : List Nat :=
  ((codes.take 8).map BitVec.toNat).filter fun c => decide (1 ≤ c) && decide (c ≤ 30)

/-- SET_TRACE (R177). -/
def setTrace (body : List Byte) (s : State) : State × Done :=
  let decimation := clampCount 0 250 (byteAt body 0)
  let codes := (body.drop 2).take (byteAt body 1)
  let kept := keptCodes codes
  ({ s with port := { s.port with
       selection := { codes := kept, decimation := decimation.1, counter := 0 } } },
   .clamped (decimation.2 + (codes.length - kept.length)))

/-! ### The twenty directives (Table 11-2) -/

/-- The directives, in code order. -/
inductive Directive where
  | enable | disable | recover | lockHold | loadAxes
  | loadMap | loadSchedule | loadTuning | commitTables | discardTables
  | setDevice | setSources | setWheel | setBus | setFaultPolicy
  | ackFault | clearFault | passThrough | setTrace | setReportMap
deriving DecidableEq, Repr

/-- The directives in code order, codes 1 to 20. -/
def Directive.all : List Directive :=
  [.enable, .disable, .recover, .lockHold, .loadAxes,
   .loadMap, .loadSchedule, .loadTuning, .commitTables, .discardTables,
   .setDevice, .setSources, .setWheel, .setBus, .setFaultPolicy,
   .ackFault, .clearFault, .passThrough, .setTrace, .setReportMap]

/-- The directive of a kind byte; a byte outside 1..20 names none. -/
def Directive.ofCode (n : Nat) : Option Directive :=
  match n with
  | 0 => none
  | m + 1 => Directive.all[m]?

/-- A length that depends on the count at byte 1 of the body; none where the body does not reach that
byte (R185). -/
def countedLength (base size : Nat) (body : List Byte) : Option Nat :=
  match body with
  | _ :: n :: _ => some (base + size * n.toNat)
  | _ => none

/-- The body length of a directive (Table 11-2); none where the body is too short to hold its count. -/
def Directive.bodyLength (d : Directive) (body : List Byte) : Option Nat :=
  match d with
  | .enable => some 0
  | .disable => some 0
  | .recover => some 0
  | .lockHold => some 1
  | .loadAxes => some 34
  | .loadMap => countedLength 2 18 body
  | .loadSchedule => some 48
  | .loadTuning => some 46
  | .commitTables => some 0
  | .discardTables => some 0
  | .setDevice => some 21
  | .setSources => some 16
  | .setWheel => some 4
  | .setBus => some 1
  | .setFaultPolicy => some 3
  | .ackFault => some 1
  | .clearFault => some 1
  | .passThrough => countedLength 3 1 body
  | .setTrace => countedLength 2 1 body
  | .setReportMap => some 6

/-- An owner's answer, given at once. -/
def answered (r : State × Done) : State × Option Done := (r.1, some r.2)

/-- The owner of a directive takes it (Table 10-2); a PASS_THROUGH that joins its queue is not answered
yet (R172). -/
def deliver (d : Directive) (tag : Byte) (body : List Byte) (s : State) : State × Option Done :=
  match d with
  | .enable => answered (enable s)
  | .disable => answered (disable s)
  | .recover => answered (recover s)
  | .lockHold => answered (lockHold body s)
  | .loadAxes => answered (loadAxes body s)
  | .loadMap => answered (loadMap body s)
  | .loadSchedule => answered (loadSchedule body s)
  | .loadTuning => answered (loadTuning body s)
  | .commitTables => answered (commitTables s)
  | .discardTables => answered (discardTables s)
  | .setDevice => answered (setDevice body s)
  | .setSources => answered (setSources body s)
  | .setWheel => answered (setWheel body s)
  | .setBus => answered (setBusSpeed body s)
  | .setFaultPolicy => answered (setFaultPolicy body s)
  | .ackFault => answered (ackFault body s)
  | .clearFault => answered (clearFault body s)
  | .passThrough => passThrough tag body s
  | .setTrace => answered (setTrace body s)
  | .setReportMap => answered (setReportMap body s)

/-- The common decode, then the delivery (R185). -/
def decodeAndDeliver (kind tag : Byte) (body : List Byte) (s : State) : State × Option Done :=
  match Directive.ofCode kind.toNat with
  | none => (s, some (.plain .badKind 0))
  | some d =>
    if d.bodyLength body = some body.length then deliver d tag body s
    else (s, some (.plain .badLength body.length))

/-- Stage the DIRECTIVE_DONE of a taken frame, if it is answered now (R172, R187). -/
def stageDone (kind tag : Byte) (d : Option Done) (s : State) : State :=
  match d with
  | some d => stage (.directiveDone tag kind d.outcome d.detail d.data) s
  | none => s

/-- A frame in place: its kind, tag and body are decoded, delivered and answered (R171). -/
def takeInPlace (frame : List Byte) (s : State) : State :=
  let kind := frame.getD 0 0
  let tag := frame.getD 1 0
  let r := decodeAndDeliver kind tag (frame.drop 2) s
  stageDone kind tag r.2 r.1

end Sys2Proof.Machine
end

