-- ==== Sys2Proof/Machine/Window.lean ====
section
/-! DEFINITION. The work of an exchange window (R169 to R175, R178): intake, releases, publishing, the
part-owned words, the causes and the close; and what a reset that abandons an open window keeps (R164). -/

namespace Sys2Proof.Machine

/-- Put the port's state in place. -/
def setPort (p : Port) (s : State) : State := { s with port := p }

/-! ### Step 2: intake (R170, R171) -/

/-- The offset of a directive frame table entry (R184). -/
def Port.entryOffset (p : Port) (count : Word) : Word := p.mem.readWord (0x0100 + 4 * (count.toNat % 16))

/-- The length of a directive frame table entry. -/
def Port.entryLength (p : Port) (count : Word) : Word :=
  p.mem.readWord (0x0100 + 4 * (count.toNat % 16) + 2)

/-- An entry is in its ranges (R184). -/
def goodEntry (offset length : Word) : Bool :=
  decide (offset.toNat ≤ 2047) && decide (2 ≤ length.toNat) && decide (length.toNat ≤ 256)

/-- The start expected after an entry. -/
def endOf (offset length : Word) : Nat := (offset.toNat + length.toNat) % 2048

/-- The DIRECTIVE_DONE of a frame refused at its entry: kind 0, tag 0, detail 0 (R171, Table 11-5). -/
def refuseFrame (outcome : Answer) (words : List Word) (s : State) : State :=
  stage (.directiveDone 0 0 outcome 0 (words.flatMap wordBytes)) s

/-- Judge and take the frame of the present take count (R171). -/
def judgeFrame (s : State) : State :=
  let offset := s.port.entryOffset s.port.take
  let length := s.port.entryLength s.port.take
  let expected := s.port.expected
  if goodEntry offset length = false then refuseFrame .badLength [offset, length] s
  else
    let s := setPort { s.port with expected := endOf offset length } s
    if offset.toNat ≠ expected then
      refuseFrame .placement [offset, length, BitVec.ofNat 16 expected] s
    else takeInPlace (s.port.mem.readRing 0x0200 2048 offset.toNat length.toNat) s

/-- Take one frame: the take count rises by 1. -/
def takeFrame (s : State) : State :=
  let s := judgeFrame s
  setPort { s.port with take := s.port.take + 1 } s

/-- Take up to n frames, as long as some wait. -/
def takeFrames (n : Nat) (close : Word) (s : State) : State :=
  match n with
  | 0 => s
  | n + 1 => if s.port.take = close then s else takeFrames n close (takeFrame s)

/-- An overrun (R170). -/
def overrun (close : Word) (s : State) : State :=
  let offset := s.port.entryOffset (close - 1)
  let length := s.port.entryLength (close - 1)
  let start := if goodEntry offset length then endOf offset length else 0
  raise .directiveOverrun 0 (setPort { s.port with take := close, expected := start } s)

/-- The number of waiting frames (R170). -/
def Port.waiting (p : Port) (close : Word) : Nat := (close - p.take).toNat

/-- Step 2 takes at least one frame. -/
def Port.takesFrames (p : Port) (close : Word) : Bool :=
  decide (1 ≤ p.waiting close) && decide (p.waiting close ≤ 16)

/-- Step 2 as far as its first n pieces, of at most four: an overrun is one, and so is each frame (R170,
R171). -/
def intakeUpTo (n : Nat) (close : Word) (s : State) : State :=
  if 16 < s.port.waiting close then (if n = 0 then s else overrun close s) else takeFrames n close s

/-! ### Step 3: releases (R173) -/

/-- Take the host's release count of a ring. -/
def Ring.release (host : Word) (r : Ring) : Ring :=
  let released :=
    if (host - r.released).toNat ≤ (r.publish - r.released).toNat then host else r.publish
  { r with released := released, footprints := r.footprints.drop (released - r.released).toNat }

/-! ### Step 4: publishing (R175) -/

/-- A report's bytes in the area: its frame and the pad byte that makes the length even. -/
def Report.padded (r : Report) : List Byte :=
  let f := r.frame
  f ++ List.replicate (f.length % 2) 0

/-- A report can be published: fewer than 16 frames are unreleased, and its footprint fits. -/
def Ring.canPublish (areaSize : Nat) (r : Ring) (rep : Report) : Bool :=
  decide ((r.publish - r.released).toNat < 16)
    && decide (footprint rep.frame.length + r.footprints.sum ≤ areaSize)

/-- The ring after its head report is published. -/
def Ring.advance (areaSize : Nat) (r : Ring) (rep : Report) (rest : List Report) : Ring :=
  { r with publish := r.publish + 1, queue := rest,
           writePos := (r.writePos + footprint rep.frame.length) % areaSize,
           footprints := r.footprints ++ [footprint rep.frame.length] }

/-- The memory with a report's bytes and its frame table entry written. -/
def Memory.publish (id : RingId) (r : Ring) (rep : Report) (m : Memory) : Memory :=
  let entryAt := id.tableBase + 4 * (r.publish.toNat % 16)
  ((m.writeRing id.areaBase id.areaSize r.writePos rep.padded).writeWord entryAt
    (wordOfNat r.writePos)).writeWord (entryAt + 2) (wordOfNat rep.frame.length)

/-- Publish up to n reports of a ring's queue, oldest first; the first that cannot be published stops
the ring. -/
def publish (n : Nat) (id : RingId) (p : Port) : Port :=
  match n with
  | 0 => p
  | n + 1 =>
    let r := p.ring id
    match r.queue with
    | [] => p
    | rep :: rest =>
      if r.canPublish id.areaSize rep then
        publish n id
          (({ p with mem := p.mem.publish id r rep } : Port).setRing id
            (r.advance id.areaSize rep rest))
      else p

/-- Step 3, then step 4 as far as its first reports of each ring: releases taken, then the event ring
published, then the trace ring. -/
def Port.serveUpTo (p : Port) (events traces : Nat) (eventRelease traceRelease : Word) : Port :=
  let p := { p with event := p.event.release eventRelease, trace := p.trace.release traceRelease }
  publish traces .trace (publish events .event p)

/-- Steps 3 and 4. -/
def Port.serveRings (p : Port) (eventRelease traceRelease : Word) : Port :=
  p.serveUpTo 4 4 eventRelease traceRelease

/-! ### Step 5: the part-owned words (R178, R193, R194) -/

/-- The counts the part writes at step 5 (Table 11-1). -/
def Memory.writeCounts (p : Port) (m : Memory) : Memory :=
  let m := m.writeWord 0x0002 p.take
  let m := m.writeWord 0x0004 p.event.publish
  let m := m.writeWord 0x0008 p.trace.publish
  let m := m.writeWord 0x000C (wordOfNat p.event.dropped)
  m.writeWord 0x000E (wordOfNat p.trace.dropped)

/-- The records the part writes at step 5: the snapshot, the fault page and the retained record. -/
def Memory.writeRecords (s : State) (m : Memory) : Memory :=
  let m := m.writeBytes 0x0040 s.snapshotBytes
  let m := m.writeBytes 0x0080 s.faults.pageBytes
  m.writeBytes 0x00D0 s.faults.retained.bytes

/-- Step 5: the snapshot number rises, then the words are written. -/
def writeOwned (s : State) : State :=
  let s := setPort { s.port with snapshotNumber := s.port.snapshotNumber + 1 } s
  setPort { s.port with mem := (s.port.mem.writeCounts s.port).writeRecords s } s

/-! ### Step 6: causes, close, and the held accesses (R166, R169) -/

/-- Serve an access to the memory (R163). -/
def Port.serve (p : Port) (a : Nat) (op : AccessOp) : Port :=
  match op with
  | .read => { p with adData := p.mem.readWord a }
  | .write w => { p with mem := p.mem.writeWord a w }

/-- Complete held accesses, in their order. -/
def Port.serveAll (p : Port) (l : List Access) : Port :=
  match l with
  | [] => p
  | a :: l => (p.serve (wordAddress a.addr) a.op).serveAll l

/-- Set a cause when something happened. -/
def setCauseIf (b : Bool) (c : Cause) (s : State) : State := if b then setCause c s else s

/-- The window closes, and the held accesses complete against the memory as it left it. -/
def closeWindow (s : State) : State :=
  let p := { s.port with window := .closed, windowAge := 0, held := [] }
  setPort (p.serveAll s.port.held) s

/-- Steps 1 to 5 of a window as far as their first n pieces, in the order of R169: four of step 2, a frame
each; steps 3 and 4 in four reports of the event ring and four of the trace ring; and step 5 as one. -/
def windowWork (n : Nat) (s : State) : State :=
  let close := s.port.mem.readWord 0x0000
  let eventRelease := s.port.mem.readWord 0x0006
  let traceRelease := s.port.mem.readWord 0x000A
  let u := intakeUpTo (min 4 n) close s
  let u := if 4 < n then
      setPort (u.port.serveUpTo (min 4 (n - 4)) (min 4 (n - 8)) eventRelease traceRelease) u
    else u
  if 12 < n then writeOwned u else u

/-- The whole of a window's work, steps 1 to 6 (R169). -/
def runWindow (s : State) : State :=
  let took := s.port.takesFrames (s.port.mem.readWord 0x0000)
  let taken := windowWork 4 s
  let t := windowWork 13 s
  let t := setCauseIf took .directivesTaken t
  let t := setCauseIf (t.port.event.publish != taken.port.event.publish) .eventPublished t
  let t := setCauseIf (t.port.trace.publish != taken.port.trace.publish) .tracePublished t
  closeWindow t

/-- What a reset finds of the window it abandons (R164). An OPEN one has finished as many pieces of its work as
a free value says, and of the piece under way it has written the words another one names (assumption 40). A
DEFERRED one has done nothing. -/
def abandonWindow (s : State) : State :=
  match s.port.window with
  | .opened =>
    let n := Config.windowReached s.ticks
    let a := windowWork n s
    let next := (windowWork (n + 1) s).port.mem
    setPort { a.port with mem := Memory.mixed (Config.windowWrote s.ticks) next a.port.mem } a
  | .closed => s
  | .deferred => s

/-- WINDOW_OPEN (R169): the open window works through its steps and closes. A window that is not OPEN has
no work to do (assumptions 5 and 11). -/
def execWindowOpen (s : State) : Host.Outcome State Fault Refusal :=
  .next <|
    match s.port.window with
    | .opened => runWindow s
    | .closed => s
    | .deferred => s

end Sys2Proof.Machine
end

