-- ==== Sys2Proof/Machine/Resets.lean ====
section
/-! DEFINITION. The three resets (R164, R181 and the reset rule of each chapter): the meanings of
POWER_ON_RESET, PIN_RESET and RESET_END, and the start of a soft reset. -/

namespace Sys2Proof.Machine

/-- The data a host access left in hand reads as a reset cuts it off: 0xFFFF for a read, as every read
during a reset (R164; assumption 24). -/
def Access.cutOff (a : Access) (adData : Word) : Word :=
  match a.op with
  | .read => 0xFFFF
  | .write _ => adData

/-- The data last driven once the accesses in hand are cut off. -/
def Port.cutOff (p : Port) : Word :=
  let d := match p.inProgress with
    | some a => a.cutOff p.adData
    | none => p.adData
  p.held.foldl (fun d a => a.cutOff d) d

/-- The counts and the three frame tables zeroed (Table 10-7). -/
def Memory.countsZeroed (m : Memory) : Memory := (m.zeroed 0x0000 0x0010).zeroed 0x0100 0x01C0

/-- Every block as a reset leaves it, timers stopped, for what the reset keeps: the contact lines, the
retained record, the memory, the enables and the port mode (Tables 1-3, 2-5, 3-4, 4-4, 5-5, 6-4, 7-3,
8-4 and 10-7, R162). -/
def cleared (phase : ResetPhase) (rstn : Bool) (kept : Retained) (mem : Memory) (adData : Word)
    (enable : BitVec 7) (mode : PortMode) (s : State) : State :=
  { pending := s.pending
    phase := phase
    rstn := rstn
    ticks := s.ticks
    seq := .cleared s.seq.lke.line s.seq.lkr.line s.seq.lrq.line
    law := .cleared
    tables := .cleared
    bus := .cleared
    sel := .cleared
    wheels := .cleared
    conv := .cleared
    drive := .cleared
    faults := .cleared kept
    port := .cleared mem adData enable mode }

/-- A power-on reset begins: the memory and the retained record are zeroed too (R161, R181). -/
def beginPowerOn (s : State) : State := cleared .powerOn s.rstn .zero [] s.port.cutOff 0 .wait s

/-- A pin reset begins: RSTN is low (R164, R181). What an open window had written so far is kept. -/
def beginPin (s : State) : State :=
  let a := abandonWindow s
  cleared .pin false a.faults.retained a.port.mem.countsZeroed s.port.cutOff 0 .wait s

/-- A soft reset begins and lasts 10 µs: the enables and the port mode are kept, and so is what an open window
had written so far (R164, R181). -/
def beginSoft (s : State) : State :=
  let a := abandonWindow s
  cleared (.soft 10) s.rstn a.faults.retained a.port.mem.countsZeroed s.port.cutOff s.port.enable
    s.port.mode s

/-- POWER_ON_RESET (R164). -/
def execPowerOnReset (s : State) : Host.Outcome State Fault Refusal := .next (beginPowerOn s)

/-- PIN_RESET (R164): RSTN goes low. A power-on reset in progress goes on, and lasts until RSTN returns
high; a pin reset in progress goes on. -/
def execPinReset (s : State) : Host.Outcome State Fault Refusal :=
  .next <|
    match s.phase with
    | .running => beginPin s
    | .soft _ => beginPin s
    | .pin => { s with rstn := false }
    | .powerOn => { s with rstn := false }

/-- A contact at the end of a reset: a closed line is accepted once it has held for 5 ms (R5). -/
def Contact.restart (c : Contact) : Contact :=
  { c with debounce := if c.line then some 5000 else none }

/-- A reset ends: every block stands as the reset leaves it, the timers restart, XCAUSE holds RESET_DONE
alone, and the bus master makes its one clear (R27, R74, R89, R119, R120, R164, R165, R181). RSTN is
high (assumption 28). -/
def endReset (s : State) : State :=
  let c := cleared .running true s.faults.retained s.port.mem s.port.adData s.port.enable s.port.mode s
  { c with
    seq := { c.seq with lke := c.seq.lke.restart, lkr := c.seq.lkr.restart, lrq := c.seq.lrq.restart }
    law := { c.law with timer := some 2000 }
    bus := ({ c.bus with timer := some 2000 } : Bus).startClear
    conv := { c.conv with normal := some 10, centre := some 25 }
    drive := { c.drive with period := some 50 }
    port := { c.port with timer := some 1000, cause := Cause.resetDone.mask } }

/-- RESET_END (R164). Outside a reset there is none to end (assumption 5). -/
def execResetEnd (s : State) : Host.Outcome State Fault Refusal :=
  .next <|
    match s.phase with
    | .running => s
    | .powerOn => endReset s
    | .pin => endReset s
    | .soft _ => endReset s

end Sys2Proof.Machine
end

