-- ==== Sys2Proof/Machine/Access.lean ====
section
/-! DEFINITION. The host's accesses and the window's opening (R163 to R168, R179, R180, R195): the
meanings of the eight access commands, EXCHANGE_TIMER_EXPIRY and DEFERRAL_LIMIT_EXPIRY. -/

namespace Sys2Proof.Machine

/-! ### Opening the window (R165, R168) -/

/-- The window opens. -/
def Port.openWindow (p : Port) : Port :=
  { p with window := .opened, windowAge := 0, opensAtCompletion := false, deferral := none }

/-- A guarded access has completed: a DEFERRED window opens, and so does one that waited for it
(R165, R168). -/
def Port.afterGuarded (p : Port) : Port :=
  match p.window with
  | .deferred => p.openWindow
  | .closed => if p.opensAtCompletion then p.openWindow else p
  | .opened => p

/-- The exchange timer expires (R165, R168). Every window has closed again well before the next expiry;
one that has not is left as it is. -/
def Port.timerExpiry (p : Port) : Port :=
  let p := { p with timer := some 2000 }
  match p.window with
  | .closed =>
    if p.holdArmed then { p with holdArmed := false, window := .deferred, deferral := some 100 }
    else if p.inProgress.isSome then { p with opensAtCompletion := true }
    else p.openWindow
  | .deferred => p
  | .opened => p

/-- EXCHANGE_TIMER_EXPIRY (R165). The timer runs from the end of a reset (assumption 5). -/
def execExchangeTimerExpiry (s : State) : Host.Outcome State Fault Refusal :=
  .next <|
    match s.port.timer with
    | some _ => setPort s.port.timerExpiry s
    | none => s

/-- DEFERRAL_LIMIT_EXPIRY (R168): HOLD_EXPIRED, and the window opens, at once or when the guarded access
in progress completes. A stopped limit has no expiry (assumption 5). -/
def execDeferralLimitExpiry (s : State) : Host.Outcome State Fault Refusal :=
  .next <|
    match s.port.deferral with
    | some _ =>
      let s := setCause .holdExpired (setPort { s.port with deferral := none } s)
      if s.port.inProgress.isSome then s else setPort s.port.openWindow s
    | none => s

/-! ### Guarded accesses (R166) -/

/-- A guarded access that finds the window OPEN: held in WAIT mode; in NOWAIT mode dropped, with 0xFFFF
read and WINDOW_COLLISION set. -/
def collide (a : Access) (s : State) : State :=
  match s.port.mode with
  | .wait => setPort { s.port with held := s.port.held ++ [a] } s
  | .noWait => setCause .windowCollision (setPort { s.port with adData := a.cutOff s.port.adData } s)

/-- The guarded access in progress completes (R165, R168); with none there is nothing to complete
(assumption 5). -/
def completeAccess (s : State) : State :=
  match s.port.inProgress with
  | none => s
  | some a =>
    let p := ({ s.port with inProgress := none } : Port).serve (wordAddress a.addr) a.op
    setPort p.afterGuarded s

/-- A guarded access begins. -/
def beginGuarded (a : Access) (s : State) : State :=
  match s.port.window with
  | .opened => collide a s
  | .closed => setPort { s.port with inProgress := some a } s
  | .deferred => setPort { s.port with inProgress := some a } s

/-- A guarded access, begun and completed at one moment. -/
def wholeGuarded (a : Access) (s : State) : State :=
  match s.port.window with
  | .opened => collide a s
  | .closed => completeAccess (setPort { s.port with inProgress := some a } s)
  | .deferred => completeAccess (setPort { s.port with inProgress := some a } s)

/-! ### Registers (R167, R179, R180, R195) -/

/-- The port drives a word. -/
def drives (w : Word) (s : State) : State := setPort { s.port with adData := w } s

/-- The port mode of an XCTRL word (Table 11-13). -/
def portModeOf (w : Word) : PortMode := if w &&& 1 = 0 then .wait else .noWait

/-- A write to XCTRL: the port mode from bit 0, then a soft reset where bit 1 is 1 (R179, R195). -/
def writeXctrl (w : Word) (s : State) : State :=
  let s := setPort { s.port with mode := portModeOf w } s
  if w &&& 2 = 0 then s else beginSoft s

/-- A write to XCAUSE clears the causes whose bits are 1 (R180). -/
def writeXcause (w : Word) (s : State) : State :=
  setPort { s.port with cause := s.port.cause &&& ~~~(w.setWidth 7) } s

/-- A write to XCAUSE_EN stores its named bits (R180, R195). -/
def writeXcauseEn (w : Word) (s : State) : State :=
  setPort { s.port with enable := w.setWidth 7 } s

/-- A read of XSTAT_HOLD returns the XSTAT word and, while the window is not OPEN, arms a hold
(R167; assumption 35). -/
def readXstatHold (s : State) : State :=
  let s := drives s.xstat s
  match s.port.window with
  | .opened => s
  | .closed => setPort { s.port with holdArmed := true } s
  | .deferred => setPort { s.port with holdArmed := true } s

/-- An access to a part of the map other than the guarded region: it is served at once (Table 10-1). -/
def serveElsewhere (place : Place) (op : AccessOp) (s : State) : State :=
  match place, op with
  | .guarded a, op => setPort (s.port.serve a op) s
  | .scratch a, op => setPort (s.port.serve a op) s
  | .xstat, .read => drives s.xstat s
  | .xstat, .write _ => s
  | .xstatHold, .read => readXstatHold s
  | .xstatHold, .write _ => s
  | .xcause, .read => drives (s.port.cause.setWidth 16) s
  | .xcause, .write w => writeXcause w s
  | .xcauseEn, .read => drives (s.port.enable.setWidth 16) s
  | .xcauseEn, .write w => writeXcauseEn w s
  | .xctrl, .read => drives s.port.xctrl s
  | .xctrl, .write w => writeXctrl w s
  | .unused, .read => drives 0 s
  | .unused, .write _ => s

/-! ### Any access (R163, R164) -/

/-- An access made during a reset completes at once: a read returns 0xFFFF, a write is not stored
(R164). -/
def accessInReset (op : AccessOp) (s : State) : State :=
  match op with
  | .read => drives 0xFFFF s
  | .write _ => s

/-- The host makes one access at a time: one still in progress completes before another begins
(assumption 10). -/
def settle (s : State) : State := completeAccess s

/-- A whole access at an address, in a running part, by the part of the map it reaches (R163,
Table 10-1; assumption 9). -/
def accessRunning (addr : Word) (op : AccessOp) (s : State) : State :=
  let s := settle s
  match placeOf addr with
  | .guarded _ => wholeGuarded { addr := addr, op := op } s
  | p => serveElsewhere p op s

/-- A whole access at an address. -/
def access (addr : Word) (op : AccessOp) (s : State) : State :=
  match s.phase with
  | .running => accessRunning addr op s
  | .powerOn => accessInReset op s
  | .pin => accessInReset op s
  | .soft _ => accessInReset op s

/-- An access begins at an address, in a running part; one outside the guarded region is served at
once. -/
def beginRunning (addr : Word) (op : AccessOp) (s : State) : State :=
  let s := settle s
  match placeOf addr with
  | .guarded _ => beginGuarded { addr := addr, op := op } s
  | p => serveElsewhere p op s

/-- An access begins at an address. -/
def beginAccess (addr : Word) (op : AccessOp) (s : State) : State :=
  match s.phase with
  | .running => beginRunning addr op s
  | .powerOn => accessInReset op s
  | .pin => accessInReset op s
  | .soft _ => accessInReset op s

/-- XSTAT_HOLD_READ (R167). -/
def execXstatHoldRead (s : State) : Host.Outcome State Fault Refusal :=
  .next (access 0x1FF2 .read s)

/-- XCAUSE_WRITE (R180). -/
def execXcauseWrite (w : Word) (s : State) : Host.Outcome State Fault Refusal :=
  .next (access 0x1FF4 (.write w) s)

/-- SET_PORT_MODE (R179): a write to XCTRL. -/
def execSetPortMode (w : Word) (s : State) : Host.Outcome State Fault Refusal :=
  .next (access 0x1FF8 (.write w) s)

/-- SOFT_RESET (R164, R179): a write to XCTRL whose bit 1 starts a soft reset at its completion. -/
def execSoftReset (w : Word) (s : State) : Host.Outcome State Fault Refusal :=
  .next (access 0x1FF8 (.write w) s)

/-- REGISTER_WRITE (R195): a write at the address. -/
def execRegisterWrite (addr w : Word) (s : State) : Host.Outcome State Fault Refusal :=
  .next (access addr (.write w) s)

/-- HOST_GUARDED_ACCESS (R166). -/
def execHostGuardedAccess (e : AccessEvent) (s : State) : Host.Outcome State Fault Refusal :=
  .next <|
    match e with
    | .whole addr op => access addr op s
    | .begins addr op => beginAccess addr op s
    | .completes => completeAccess s

/-- HOST_SCRATCH_ACCESS (R163). -/
def execHostScratchAccess (addr : Word) (op : AccessOp) (s : State) :
    Host.Outcome State Fault Refusal :=
  .next (access addr op s)

end Sys2Proof.Machine
end

