-- ==== Sys2Proof/Machine/Dispatch.lean ====
section
/-! DEFINITION. The dispatch: one arm for each command, one direct call of its meaning. -/

namespace Sys2Proof.Machine

def exec (i : Instr) (s : State) : Host.Outcome State Fault Refusal :=
  match i with
  | .powerOnReset => Sys2Proof.Machine.execPowerOnReset s
  | .pinReset => Sys2Proof.Machine.execPinReset s
  | .softReset w => Sys2Proof.Machine.execSoftReset w s
  | .setPortMode w => Sys2Proof.Machine.execSetPortMode w s
  | .resetEnd => Sys2Proof.Machine.execResetEnd s
  | .xstatHoldRead => Sys2Proof.Machine.execXstatHoldRead s
  | .xcauseWrite w => Sys2Proof.Machine.execXcauseWrite w s
  | .registerWrite addr w => Sys2Proof.Machine.execRegisterWrite addr w s
  | .hostGuardedAccess a => Sys2Proof.Machine.execHostGuardedAccess a s
  | .hostScratchAccess addr op => Sys2Proof.Machine.execHostScratchAccess addr op s
  | .exchangeTimerExpiry => Sys2Proof.Machine.execExchangeTimerExpiry s
  | .deferralLimitExpiry => Sys2Proof.Machine.execDeferralLimitExpiry s
  | .windowOpen => Sys2Proof.Machine.execWindowOpen s
  | .controlCycleExpiry now => Sys2Proof.Machine.execControlCycleExpiry now s
  | .computationComplete => Sys2Proof.Machine.execComputationComplete s
  | .contactLineChange line closed => Sys2Proof.Machine.execContactLineChange line closed s
  | .contactAccepted line => Sys2Proof.Machine.execContactAccepted line s
  | .releaseLimitExpiry => Sys2Proof.Machine.execReleaseLimitExpiry s
  | .engageLimitExpiry => Sys2Proof.Machine.execEngageLimitExpiry s
  | .releaseHoldOffExpiry => Sys2Proof.Machine.execReleaseHoldOffExpiry s
  | .solenoidPullInExpiry => Sys2Proof.Machine.execSolenoidPullInExpiry s
  | .roundTimerExpiry => Sys2Proof.Machine.execRoundTimerExpiry s
  | .pollComplete a stopFormed => Sys2Proof.Machine.execPollComplete a stopFormed s
  | .passThroughComplete a stopFormed => Sys2Proof.Machine.execPassThroughComplete a stopFormed s
  | .sclHoldTimeout sdaHigh sclHigh => Sys2Proof.Machine.execSclHoldTimeout sdaHigh sclHigh s
  | .busClearComplete sdaHigh sclHigh => Sys2Proof.Machine.execBusClearComplete sdaHigh sclHigh s
  | .wheelPulse wheel stamp => Sys2Proof.Machine.execWheelPulse wheel stamp s
  | .normalConversionComplete raw => Sys2Proof.Machine.execNormalConversionComplete raw s
  | .injectedTrigger => Sys2Proof.Machine.execInjectedTrigger s
  | .injectedComplete rawTilt rawSteer first => Sys2Proof.Machine.execInjectedComplete rawTilt rawSteer first s
  | .pwmPeriodStart => Sys2Proof.Machine.execPwmPeriodStart s
  | .ackTimerExpiry kind => Sys2Proof.Machine.execAckTimerExpiry kind s
  | .fltnMinTimerExpiry => Sys2Proof.Machine.execFltnMinTimerExpiry s

end Sys2Proof.Machine
end

