-- ==== Sys2Proof/Machine/Due.lean ====
section
/-! DEFINITION. The passing of time on an empty queue (assumption 3): the events that are due, and the
passing of 1 µs in every running timer. -/

namespace Sys2Proof.Machine

/-- A timer's expiry is due. -/
def expired (t : Timer) : Bool := t == some 0

/-- An event in a list, when it is due. -/
def dueIf (b : Bool) (i : Instr) : List Instr := if b then [i] else []

/-- The computation in progress is due to complete: within 100 µs of its expiry, when the free value says
(R27; assumption 13). -/
def State.computationDue (s : State) : Bool :=
  match s.law.computing with
  | some c => decide (min 100 (Config.computationTime s.ticks) ≤ c.age)
  | none => false

/-- The open window's work is due: within 80 µs of its opening, when the free value says (R165;
assumption 13). -/
def State.windowDue (s : State) : Bool :=
  match s.port.window with
  | .opened => decide (min 80 (Config.windowTime s.ticks) ≤ s.port.windowAge)
  | .closed => false
  | .deferred => false

/-- The lock limit's expiry, by the mode it finds (R8). -/
def State.lockLimitDue (s : State) : List Instr :=
  match s.seq.mode with
  | .releasing => dueIf (expired s.seq.lockLimit) .releaseLimitExpiry
  | .engaging => dueIf (expired s.seq.lockLimit) .engageLimitExpiry
  | .off => []
  | .held => []
  | .active => []
  | .capturing => []
  | .safe => []

/-- The number of the analog input a normal channel converts. -/
def NormalChannel.input : NormalChannel → Nat
  | .an0 => 0 | .an1 => 1 | .an2 => 2 | .an3 => 3 | .an4 => 4 | .an5 => 5

/-- The channel that takes an injected completion first, where the part picks (assumption 18). -/
def State.firstChannel (s : State) : Bridge :=
  if Config.tiltTakesFirst s.ticks then .tilt else .steer

/-- The events due in the exchange port, the law and the sequencer. -/
def State.dueControl (s : State) : List Instr :=
  dueIf (expired s.port.timer) .exchangeTimerExpiry
    ++ dueIf (expired s.port.deferral) .deferralLimitExpiry
    ++ dueIf s.windowDue .windowOpen
    ++ dueIf (expired s.law.timer) (.controlCycleExpiry s.wheels.counter)
    ++ dueIf s.computationDue .computationComplete
    ++ dueIf (expired s.seq.lke.debounce) (.contactAccepted .lke)
    ++ dueIf (expired s.seq.lkr.debounce) (.contactAccepted .lkr)
    ++ dueIf (expired s.seq.lrq.debounce) (.contactAccepted .lrq)
    ++ s.lockLimitDue
    ++ dueIf (expired s.seq.holdOff) .releaseHoldOffExpiry

/-- The events due in the bus master, the converter and the drive block. -/
def State.duePower (s : State) : List Instr :=
  dueIf (expired s.bus.timer) .roundTimerExpiry
    ++ dueIf (expired s.conv.normal)
        (.normalConversionComplete (Config.analogRaw s.ticks s.conv.position.input))
    ++ dueIf (expired s.conv.centre) .injectedTrigger
    ++ dueIf (expired s.conv.injected)
        (.injectedComplete (Config.analogRaw s.ticks 6) (Config.analogRaw s.ticks 7) s.firstChannel)
    ++ dueIf (expired s.drive.period) .pwmPeriodStart
    ++ dueIf (expired s.drive.pullIn) .solenoidPullInExpiry

/-- The events due in the fault monitor. -/
def State.dueFaults (s : State) : List Instr :=
  FaultKind.all.flatMap (fun k => dueIf (expired (s.faults.get k).ackTimer) (.ackTimerExpiry k))
    ++ dueIf (expired s.faults.minTimer) .fltnMinTimerExpiry

/-- The events that are due: the end of a soft reset, or every timer that has run out. The other two
resets end from outside (R164). -/
def State.due (s : State) : List Instr :=
  match s.phase with
  | .running => s.dueControl ++ s.duePower ++ s.dueFaults
  | .soft left => dueIf (left == 0) .resetEnd
  | .powerOn => []
  | .pin => []

/-- 1 µs passes in a timer. -/
def elapse (t : Timer) : Timer :=
  match t with
  | none => none
  | some n => some (n - 1)

/-- 1 µs passes in a contact's debounce. -/
def Contact.elapse (c : Contact) : Contact := { c with debounce := Machine.elapse c.debounce }

/-- 1 µs passes in the sequencer. -/
def Sequencer.elapse (q : Sequencer) : Sequencer :=
  { q with lockLimit := Machine.elapse q.lockLimit, holdOff := Machine.elapse q.holdOff,
           lke := q.lke.elapse, lkr := q.lkr.elapse, lrq := q.lrq.elapse }

/-- 1 µs passes in the law. -/
def Law.elapse (l : Law) : Law :=
  { l with timer := Machine.elapse l.timer,
           computing := match l.computing with
             | some c => some { c with age := c.age + 1 }
             | none => none }

/-- 1 µs passes in the converter. -/
def Converter.elapse (c : Converter) : Converter :=
  { c with normal := Machine.elapse c.normal, centre := Machine.elapse c.centre,
           injected := Machine.elapse c.injected }

/-- 1 µs passes in the drive block. -/
def Drive.elapse (d : Drive) : Drive :=
  { d with period := Machine.elapse d.period, pullIn := Machine.elapse d.pullIn }

/-- 1 µs passes in a kind's record. -/
def FaultRecord.elapse (r : FaultRecord) : FaultRecord :=
  { r with ackTimer := Machine.elapse r.ackTimer }

/-- 1 µs passes in the fault monitor. -/
def FaultMonitor.elapse (m : FaultMonitor) : FaultMonitor :=
  { m with table := tableMap FaultRecord.elapse m.table, minTimer := Machine.elapse m.minTimer }

/-- 1 µs passes in the port. -/
def Port.elapse (p : Port) : Port :=
  { p with timer := Machine.elapse p.timer, deferral := Machine.elapse p.deferral,
           windowAge := match p.window with
             | .opened => p.windowAge + 1
             | .closed => p.windowAge
             | .deferred => p.windowAge }

/-- 1 µs passes in a running part. -/
def State.elapseRunning (s : State) : State :=
  { s with seq := s.seq.elapse, law := s.law.elapse, bus := { s.bus with timer := elapse s.bus.timer },
           wheels := { s.wheels with counter := s.wheels.counter + 1 }, conv := s.conv.elapse,
           drive := s.drive.elapse, faults := s.faults.elapse, port := s.port.elapse }

/-- 1 µs passes. In a reset only a soft reset's own time runs (R164). -/
def passMicrosecond (s : State) : State :=
  let s := { s with ticks := s.ticks + 1 }
  match s.phase with
  | .running => s.elapseRunning
  | .soft left => { s with phase := .soft (left - 1) }
  | .powerOn => s
  | .pin => s

/-- Of several due events, the one the free value picks (assumption 4). -/
def pick (choice : Nat) (i : Instr) (others : List Instr) : Instr :=
  (i :: others).getD (choice % (others.length + 1)) i

end Sys2Proof.Machine
end

