-- ==== Sys2Proof/Machine/Step.lean ====
section
/-! DEFINITION. The step of the block. -/

namespace Sys2Proof.Machine

/-- The part left to itself takes one due event, or lets 1 µs pass where none is due (assumption 3). -/
def idle (s : State) : Host.Outcome State Fault Refusal :=
  match s.due with
  | [] => .next (passMicrosecond s)
  | i :: others => exec (pick (Config.dueChoice s.ticks (others.length + 1)) i others) s

/-- One step: the command at the front of the queue acts on the state with the queue's rest; on an empty
queue the part is left to itself. -/
def step (s : State) : Host.Outcome State Fault Refusal :=
  match s.pending with
  | c :: rest => exec c { s with pending := rest }
  | [] => idle s

/-- The state with the command a word spells at the front of its queue; unchanged where it spells
none. -/
def State.withFetchWord (s : State) (nbits w : Nat) : State :=
  match decodeTableWord nbits w with
  | some c => { s with pending := c :: s.pending }
  | none => s

end Sys2Proof.Machine
end

