-- ==== Sys2Proof/Safety.lean ====
section
/-! DEFINITION. The terms the statements use: what a safe state is (the lock, the bridges, the report
rings, the calibration tables, the fault table), what a mode change leaves, and what a freed bus takes up. -/

namespace Sys2Proof.Machine

/-- The modes in which the lock solenoid is off (R7). -/
def Mode.lockDropped (m : Mode) : Bool := m == .off || m == .held || m == .engaging

/-- The modes in which the solenoid command is on (Table 1-1). -/
def Mode.lockPulled (m : Mode) : Bool := m == .releasing || m == .active || m == .capturing

/-- The lock is safe: the stage is OFF exactly while the command is off (R142); the command is off in
OFF, HELD and ENGAGING and on in RELEASING, ACTIVE and CAPTURING, in SAFE it is the latch (R7, R24); in
HELD the lock drive is ENGAGED (R13). -/
structure LockSafe (s : State) : Prop where
  stage : s.drive.stage = .off ↔ s.seq.solenoid = false
  dropped : s.seq.mode.lockDropped = true → s.seq.solenoid = false
  pulled : s.seq.mode.lockPulled = true → s.seq.solenoid = true
  latch : s.seq.mode = .safe → s.seq.solenoid = s.seq.latchHolding
  seated : s.seq.mode = .held → s.seq.lockDrive = .engaged

/-- No policy and no reaction in force lies below its kind's floor (Table 9-2), and no momentary kind is
ACTIVE (R148). -/
structure FaultsSafe (m : FaultMonitor) : Prop where
  policy : ∀ k : FaultKind, k.floor.code ≤ (m.get k).policyReaction.code
  reaction : ∀ k : FaultKind, k.floor.code ≤ (m.get k).reaction.code
  momentary : ∀ k : FaultKind, k.momentary = true → (m.get k).state ≠ .active

/-- A channel's record lies in its ranges (Table 8-1): duties within ±950, the integrator within
±3891200, duties 0 unless ON (Table 8-2), ON only while wanted ON, and OFF only while wanted OFF (R133). -/
structure ChannelSafe (c : Channel) : Prop where
  duty : c.duty.natAbs ≤ 950
  applied : c.applied.natAbs ≤ 950
  integrator : c.integrator.natAbs ≤ 3891200
  quiet : c.state ≠ .on → c.duty = 0 ∧ c.applied = 0
  wanted : c.state = .on → c.wanted = true
  driven : c.wanted = true → c.state ≠ .off

/-- The bridges are safe: both channels are, each is wanted as the mode says (Table 1-1), and one that is
TRIPPED and wanted OFF has an over-current kind that is not CLEAR (R133, R134). -/
structure BridgesSafe (s : State) : Prop where
  tilt : ChannelSafe s.drive.tilt
  steer : ChannelSafe s.drive.steer
  tiltWanted : s.drive.tilt.wanted = s.seq.mode.tiltWanted
  steerWanted : s.drive.steer.wanted = s.seq.mode.steerWanted
  tiltTripped : s.drive.tilt.state = .tripped → s.drive.tilt.wanted = false →
    (s.faults.get .tiltOvercurrent).state ≠ .clear
  steerTripped : s.drive.steer.state = .tripped → s.drive.steer.wanted = false →
    (s.faults.get .steerOvercurrent).state ≠ .clear

/-- A ring is safe (R174, R175): the published unreleased frames are at most 16 and are those whose
footprints are kept, their bytes fit the area, the write position is even and in the area, and the
staging queue is within its room. -/
structure RingSafe (id : RingId) (r : Ring) : Prop where
  frames : (r.publish - r.released).toNat = r.footprints.length
  atMost : r.footprints.length ≤ 16
  bytes : r.footprints.sum ≤ id.areaSize
  even : r.writePos % 2 = 0
  inArea : r.writePos < id.areaSize
  room : r.queue.length ≤ id.room

/-- Both report rings are safe. -/
structure RingsSafe (p : Port) : Prop where
  event : RingSafe .event p.event
  trace : RingSafe .trace p.trace

/-- The tables are safe: the active bank passes the commit checks (R51, R52, R54), a bank whose commit is
pending does too, and none is pending in OFF or HELD (R65). -/
structure TablesSafe (s : State) : Prop where
  active : s.tables.activeBank.failingCheck = none
  checked : s.tables.commitPending = true → s.tables.pendingBank.failingCheck = none
  settled : s.tables.commitPending = true → s.seq.mode ≠ .off ∧ s.seq.mode ≠ .held

/-- The exchange memory is in its canonical form. -/
abbrev MemorySafe (p : Port) : Prop := p.mem.wf = true

/-! ### What a mode change leaves (R2, R3, R7, R133, R142) -/

/-- A channel given a wanted state (Table 8-3); `kindClear` says that its over-current kind is CLEAR. That
the over-current run is 0 in OFF is log entry 22. -/
def Channel.given (wanted kindClear : Bool) (c : Channel) : Channel :=
  if wanted = true then
    if c.state = .off then
      { state := .on, wanted := true, setpoint := c.setpoint, integrator := 0, duty := 0, applied := 0
        overRun := 0 }
    else { c with wanted := true }
  else if c.state = .on ∨ (c.state = .tripped ∧ kindClear = true) then
    { state := .off, wanted := false, setpoint := c.setpoint, integrator := c.integrator, duty := 0
      applied := 0, overRun := 0 }
  else { c with wanted := false }

/-- The state with the sequencer changed to `q` and the report of it staged: MODE_CHANGED with the mode
before, the mode of `q` and the cause (R3); the solenoid stage follows the command of `q` (R142), and each
channel is given its wanted state (R133; log entry 22 for a channel that enters OFF). -/
def State.modeChanged (s : State) (cause : ModeCause) (q : Sequencer) (tilt steer : Bool) : State :=
  { stage (.modeChanged s.seq.mode q.mode cause) s with
    seq := q
    drive := { s.drive.command s.seq.solenoid q.solenoid with
      tilt := s.drive.tilt.given tilt ((s.faults.get .tiltOvercurrent).state == .clear)
      steer := s.drive.steer.given steer ((s.faults.get .steerOvercurrent).state == .clear) } }

/-! ### What a freed bus takes up (R75, R76, R81, R87) -/

/-- What a bus that has just become free takes up: a STUCK one nothing (R87); a READY one the poll of the
lowest enabled index above the round's last poll (R75), with the round's polls done the oldest pass-through,
unless the round has had one (R81), and else nothing. That a round none of whose remaining entries is
enabled any more has its polls done is log entry 38. -/
def Bus.TakesUp (b t : Bus) : Prop :=
  let rests (r : Round) : Bus := { b with activity := .idle, round := r }
  let waits (last : Option (Fin 6)) (i : Fin 6) : Prop :=
    (b.device i).cfg.enabled = true ∧ ∀ j, last = some j → j < i
  let pollsDone : Prop :=
    (b.passUsed = true ∨ b.queue = [] → t = rests .done) ∧
    ∀ p rest, b.passUsed = false → b.queue = p :: rest →
      t = { rests .done with activity := .passThrough { speed := b.speed, wire := p.wire }
                             passUsed := true }
  (b.stuck = true → t = rests b.round) ∧
  (b.stuck = false →
    (b.round = .notStarted → t = rests .notStarted) ∧
    (b.round = .done → pollsDone) ∧
    ∀ last, b.round = .polling last →
      (∀ i, waits last i → (∀ j, j < i → ¬ waits last j) →
        t = { b with activity := .poll i false false { speed := b.speed, wire := (b.device i).cfg.wire } }) ∧
      ((∀ i, ¬ waits last i) → pollsDone))

end Sys2Proof.Machine
end

