-- ==== Sys2Proof/WellFormed.lean ====
section
/-! DEFINITION. Well-formed commands: the operand values the manual gives each row. -/

namespace Sys2Proof

open Machine in
/-- The address reaches the guarded region (Table 10-1). -/
def inGuarded (addr : Word) : Bool :=
  match placeOf addr with
  | .guarded _ => true
  | .scratch _ => false
  | .xstat => false
  | .xstatHold => false
  | .xcause => false
  | .xcauseEn => false
  | .xctrl => false
  | .unused => false

open Machine in
/-- The address reaches the scratch (Table 10-1). -/
def inScratch (addr : Word) : Bool :=
  match placeOf addr with
  | .scratch _ => true
  | .guarded _ => false
  | .xstat => false
  | .xstatHold => false
  | .xcause => false
  | .xcauseEn => false
  | .xctrl => false
  | .unused => false

open Machine in
/-- The address reaches a register whose writes have no row of their own: XSTAT, XSTAT_HOLD, XCAUSE_EN
or an unused word (R195). -/
def inPlainRegister (addr : Word) : Bool :=
  match placeOf addr with
  | .xstat => true
  | .xstatHold => true
  | .xcauseEn => true
  | .unused => true
  | .guarded _ => false
  | .scratch _ => false
  | .xcause => false
  | .xctrl => false

/-- A guarded access lies in the guarded region. -/
def AccessEvent.wf : AccessEvent → Bool
  | .whole addr _ => inGuarded addr
  | .begins addr _ => inGuarded addr
  | .completes => true

/-- An answer brings no more levels than the longest transaction has the master read. -/
def BusAnswer.wf (longest : Nat) : BusAnswer → Bool
  | .levels sda => decide (sda.length ≤ longest)
  | .lineLow => true

/-- A command is well-formed: SOFT_RESET writes a 1 to bit 1 of XCTRL and SET_PORT_MODE a 0 (R179); each
access row lies in its part of the map (R163, R195); a poll sends at most four bytes and receives at most
eight, 68 levels to read (R75), a pass-through sends at most fourteen and receives at most twelve, 110
levels (R80, R82). -/
def Instr.wf (i : Instr) : Bool :=
  match i with
  | .powerOnReset => true
  | .pinReset => true
  | .softReset w => w &&& 2 != 0
  | .setPortMode w => w &&& 2 == 0
  | .resetEnd => true
  | .xstatHoldRead => true
  | .xcauseWrite _ => true
  | .registerWrite addr _ => inPlainRegister addr
  | .hostGuardedAccess a => a.wf
  | .hostScratchAccess addr _ => inScratch addr
  | .exchangeTimerExpiry => true
  | .deferralLimitExpiry => true
  | .windowOpen => true
  | .controlCycleExpiry _ => true
  | .computationComplete => true
  | .contactLineChange _ _ => true
  | .contactAccepted _ => true
  | .releaseLimitExpiry => true
  | .engageLimitExpiry => true
  | .releaseHoldOffExpiry => true
  | .solenoidPullInExpiry => true
  | .roundTimerExpiry => true
  | .pollComplete a _ => a.wf 68
  | .passThroughComplete a _ => a.wf 110
  | .sclHoldTimeout _ _ => true
  | .busClearComplete _ _ => true
  | .wheelPulse _ _ => true
  | .normalConversionComplete _ => true
  | .injectedTrigger => true
  | .injectedComplete _ _ _ => true
  | .pwmPeriodStart => true
  | .ackTimerExpiry _ => true
  | .fltnMinTimerExpiry => true

end Sys2Proof
end

