-- ==== Sys2Proof/Certificates/Slice0/Obligations.lean ====
section
/-! DEFINITION. The statements for the provers. Each docstring names the rules of spec/ it rests on, and
the log entry where a clause is the model's own choice. -/

open Sys2Proof Sys2Proof.Machine

/-! ### The step -/

/-- The command at the front of the queue acts on the state with the queue's rest (the queue is the model's
own, log entry 34). -/
def Obligations.StepRunsFrontCommand : Prop :=
  ∀ (c : Instr) (rest : List Instr) (s : State),
    step { s with pending := c :: rest } = exec c { s with pending := rest }

/-- The model's own choices. Every command completes, in every state, the expiry of a stopped timer included
(log entry 5), and leaves the queue (log entry 34), the model's clock (log entry 3) and, but for the pin
reset and the end of a reset, the level of RSTN alone (log entry 28). A step on an empty queue (log entry 3)
acts as one of the commands that are due, whichever (log entry 4): in a running part those whose timers have
run out and, within their bounds, the ends of the computation and of the open window (log entry 13), with the
raw counts and the first channel that the free values give (log entries 14 and 18). Where none is due, 1 µs
passes: every running timer and debounce counts down by 1, the wheel timestamp counter and the ages count up
by 1, all else stays; a soft reset counts down its own time alone, and the other two resets wait. -/
def Obligations.CommandsAndIdleComplete : Prop :=
  (∀ (c : Instr) (s : State), ∃ t, exec c s = .next t ∧ t.pending = s.pending ∧ t.ticks = s.ticks ∧
    (c ≠ .pinReset → c ≠ .resetEnd → t.rstn = s.rstn)) ∧
  ∀ s : State, s.pending = [] →
    let ranOut (x : Timer) : Prop := x = some 0
    let raws (n : Nat) : BitVec 12 := Config.analogRaw s.ticks n
    let input : Nat := match s.conv.position with
      | .an0 => 0
      | .an1 => 1
      | .an2 => 2
      | .an3 => 3
      | .an4 => 4
      | .an5 => 5
    let first : Bridge := if Config.tiltTakesFirst s.ticks = true then .tilt else .steer
    let runsOut (i : Instr) : Prop :=
      match i with
      | .exchangeTimerExpiry => ranOut s.port.timer
      | .deferralLimitExpiry => ranOut s.port.deferral
      | .windowOpen => s.port.window = .opened ∧ min 80 (Config.windowTime s.ticks) ≤ s.port.windowAge
      | .controlCycleExpiry now => ranOut s.law.timer ∧ now = s.wheels.counter
      | .computationComplete =>
          ∃ c, s.law.computing = some c ∧ min 100 (Config.computationTime s.ticks) ≤ c.age
      | .contactAccepted l => ranOut (s.seq.contact l).debounce
      | .releaseLimitExpiry => s.seq.mode = .releasing ∧ ranOut s.seq.lockLimit
      | .engageLimitExpiry => s.seq.mode = .engaging ∧ ranOut s.seq.lockLimit
      | .releaseHoldOffExpiry => ranOut s.seq.holdOff
      | .roundTimerExpiry => ranOut s.bus.timer
      | .normalConversionComplete raw => ranOut s.conv.normal ∧ raw = raws input
      | .injectedTrigger => ranOut s.conv.centre
      | .injectedComplete tilt steer channel =>
          ranOut s.conv.injected ∧ tilt = raws 6 ∧ steer = raws 7 ∧ channel = first
      | .pwmPeriodStart => ranOut s.drive.period
      | .solenoidPullInExpiry => ranOut s.drive.pullIn
      | .ackTimerExpiry k => ranOut (s.faults.get k).ackTimer
      | .fltnMinTimerExpiry => ranOut s.faults.minTimer
      | _ => False
    let due (i : Instr) : Prop := (s.phase = .running ∧ runsOut i) ∨ (s.phase = .soft 0 ∧ i = .resetEnd)
    let less (x : Timer) : Timer := x.map (· - 1)
    let held (c : Contact) : Contact := { c with debounce := less c.debounce }
    let later : State := { s with ticks := s.ticks + 1 }
    (∀ i, due i → ∃ j, due j ∧ step s = exec j s) ∧
    ((∀ i, ¬ due i) → ∃ t, step s = .next t ∧
      (s.phase = .powerOn ∨ s.phase = .pin → t = later) ∧
      (∀ left, s.phase = .soft left → t = { later with phase := .soft (left - 1) }) ∧
      (s.phase = .running →
        t = { later with
          seq := { s.seq with lockLimit := less s.seq.lockLimit, holdOff := less s.seq.holdOff,
                              lke := held s.seq.lke, lkr := held s.seq.lkr, lrq := held s.seq.lrq }
          law := { s.law with
            timer := less s.law.timer
            computing := s.law.computing.map fun c => { c with age := c.age + 1 } }
          bus := { s.bus with timer := less s.bus.timer }
          wheels := { s.wheels with counter := s.wheels.counter + 1 }
          conv := { s.conv with normal := less s.conv.normal, centre := less s.conv.centre,
                                injected := less s.conv.injected }
          drive := { s.drive with period := less s.drive.period, pullIn := less s.drive.pullIn }
          faults := t.faults
          port := { s.port with
            timer := less s.port.timer
            deferral := less s.port.deferral
            windowAge := if s.port.window = .opened then s.port.windowAge + 1 else s.port.windowAge } } ∧
        t.faults.minTimer = less s.faults.minTimer ∧ t.faults.retained = s.faults.retained ∧
        ∀ k : FaultKind, t.faults.get k =
          { s.faults.get k with ackTimer := less (s.faults.get k).ackTimer }))

/-! ### Invariants that every step keeps -/

/-- What every reset leaves in the blocks, value by value: Tables 1-3 (the contacts open in debounced level,
their lines as they stand), 2-5, 3-4 with the default bank of R56 and the defaults of Table 3-3, 4-4 with the
entries of R71, 5-5, 6-4 with the tooth arc of R104, 7-3, 8-4, 9-3 (the fault table's defaults stand in
SetFaultPolicy), 10-7 and the report map of R176; these are the blocks ResetsBegin and
ResetEndsAndAccessesBefore name. The state after reset holds them with the timers that run from the end of a
reset and the bus master's one clear (R27, R74, R89, R119, R120, R132, R165), and is safe in every way (R4,
R56, R143, R162, R181). That it stands after a power-on reset, RSTN high and the lines open, is log entry 1,
the data last driven log entry 2, the model's clock log entry 3, the empty queue log entry 34. -/
def Obligations.ResetValuesAndSafety : Prop :=
  let open_ (closed : Bool) : Contact := { line := closed, level := false, debounce := none }
  let results : Results :=
    { cycle := 0, phi := 0, phiDot := 0, delta := 0, tauR := 0, v := 0, phiStar := 0, aEff := 0, gEff := 0,
      tTilt := 0, tSteer := 0, iTilt := 0, iSteer := 0 }
  let point (speed : Nat) : SchedulePoint := { speed := speed, authority := 1000, steerGain := 0, kds := 0 }
  let tuning : Tuning :=
    { kp := 400, kd := 40, kdSafe := 40, tmaxTilt := 2000, slewTilt := 100, tmaxSteer := 800,
      slewSteer := 50, ls := 4000, vRel := 150, vCap := 80, captureBand := 150, captureRate := 500,
      degradeCap := 500, ktTilt := 600, ktSteer := 600, iLimitTilt := 15000, iLimitSteer := 15000,
      tripCurrent := 25000, kpi := 800, ki := 40, supplyLow := 36000, supplyHigh := 60000, hotLimit := 1200 }
  let bank : Bank :=
    { speedAxis := #v[0, 100, 200, 400, 700, 1000, 1500, 2500]
      steerAxis := #v[-4000, -2000, -1000, -500, 0, 500, 1000, 2000, 4000]
      leanMap := Vector.replicate 8 (Vector.replicate 9 0)
      schedule := #v[point 0, point 100, point 200, point 400, point 800, point 2500]
      tuning := tuning }
  let device : Device :=
    { cfg := { enabled := false, address := 0, regWidth := 1, regAddr := 0, readLength := 1, quantity := .lean,
               rawPos := 0, little := false, gain := 0, offset := 0, status := none, maxStep := 0,
               staleLimit := 5 }
      run := { last := 0, age := none, misses := 0, joined := false, sampled := false } }
  let quantity : QuantityRecord :=
    { primary := .absent, fallback := .absent, state := .lost, inUse := .absent, held := 0, holdCount := 10,
      returnCount := 0, raised := .nothing, shown := { state := .lost, inUse := .absent } }
  let pot : PotScale := { centre := 2048, gain := 256 }
  let wheel : WheelRecord :=
    { teeth := 48, circumference := 1300, arc := 27083, state := .stopped, reference := none,
      lastPeriod := none, rejectRun := 0, acceptRun := 0, speed := 0, shown := { state := .stopped, speed := 0 } }
  let run : ThresholdRun := { raised := false, run := 0 }
  let channel : Channel :=
    { state := .off, wanted := false, setpoint := 0, integrator := 0, duty := 0, applied := 0, overRun := 0 }
  let ring : Ring :=
    { publish := 0, released := 0, dropped := 0, writePos := 0, offer := 0, queue := [], footprints := [] }
  (∀ lke lkr lrq : Bool, Sequencer.cleared lke lkr lrq =
    { mode := .off, solenoid := false, captureCount := 0, attemptCount := 0, hostLock := false,
      lockLimit := none, holdOff := none, latchHolding := false, lastSpeed := 0, lke := open_ lke,
      lkr := open_ lkr, lrq := open_ lrq }) ∧
  Law.cleared = { timer := none, cycle := 0, started := false, prevTilt := 0, prevSteer := 0, prevDelta := 0,
                  computing := none, results := results } ∧
  Tables.cleared = { activeBank := bank, pendingBank := bank, commitPending := false, generation := 0 } ∧
  Bus.cleared = { speed := .mhz1, stuck := false, timer := none, devices := Vector.replicate 6 device,
                  activity := .idle, round := .notStarted, passUsed := false, queue := [] } ∧
  Selector.cleared = { lean := quantity, rate := quantity, steer := quantity, torque := quantity,
                       leanPot := pot, steerPot := pot, prevPhi := 0 } ∧
  Tracker.cleared = { counter := 0, frontLeft := wheel, frontRight := wheel, rear := wheel, heldSpeed := 0,
                      holdCount := 0, degradedRaised := false, lostRaised := false } ∧
  Converter.cleared =
    { supply := 0, tiltTemp := 0, steerTemp := 0, leanPot := 0, steerPot := 0, logic := 0, tiltCurrent := 0,
      steerCurrent := 0, position := .an0, normal := none, centre := none, injected := none, low := run,
      high := run, hotTilt := run, hotSteer := run } ∧
  Drive.cleared = { tilt := channel, steer := channel, period := none, stage := .off, pullIn := none,
                    holdDriven := false } ∧
  (∀ kept : Retained, (FaultMonitor.cleared kept).minTimer = none ∧
    (FaultMonitor.cleared kept).retained = kept ∧
    ∀ k : FaultKind, (FaultMonitor.cleared kept).get k =
      let r := ((FaultMonitor.cleared kept).get k).policyReaction
      { policyReaction := r, policyTimeout := 0, state := .clear, reaction := r, timeout := 0,
        acknowledged := false, escalated := false, ackTimer := none, count := 0, lastInstance := 0 }) ∧
  Retained.zero = { kind := 0, lastInstance := 0, modeBefore := .off, phi := 0, v := 0, cycle := 0,
                    count := 0 } ∧
  (∀ (mem : Memory) (driven : Word) (enable : BitVec 7) (mode : PortMode),
    Port.cleared mem driven enable mode =
      { mem := mem, timer := none, window := .closed, windowAge := 0, opensAtCompletion := false,
        holdArmed := false, deferral := none, inProgress := none, held := [], adData := driven, cause := 0,
        enable := enable, mode := mode, take := 0, expected := 0, event := ring, trace := ring,
        map := { directiveDone := .event, modeChanged := .event, faultChanged := .event
                 sourceChanged := .event, tablesSwapped := .event, trace := .trace }
        selection := { codes := [], decimation := 0, counter := 0 }, snapshotNumber := 0 }) ∧
  State.reset =
    { pending := [], phase := .running, rstn := true, ticks := 0, seq := .cleared false false false
      law := { Law.cleared with timer := some 2000 }, tables := .cleared
      bus := { Bus.cleared with
        timer := some 2000
        activity := .clear { speed := .mhz1, wire := List.replicate 9 .clock ++ [.stop] } }
      sel := .cleared, wheels := .cleared
      conv := { Converter.cleared with normal := some 10, centre := some 25 }
      drive := { Drive.cleared with period := some 50 }, faults := .cleared .zero
      port := { Port.cleared [] 0 0 .wait with timer := some 1000, cause := 1 } } ∧
  MemorySafe State.reset.port ∧ LockSafe State.reset ∧ FaultsSafe State.reset.faults ∧
    BridgesSafe State.reset ∧ RingsSafe State.reset.port ∧ TablesSafe State.reset

/-- Every step keeps the exchange memory in its canonical form. -/
def Obligations.MemoryStaysCanonical : Prop :=
  ∀ s t : State, MemorySafe s.port → step s = .next t → MemorySafe t.port

/-- Every step keeps the lock safe, and each kind at or above its floor: the solenoid is off whenever the
mode is OFF, HELD or ENGAGING, HELD means a seated pin, and no momentary kind becomes ACTIVE (R7, R13,
R24, R142, R146, R148, R155). -/
def Obligations.LockAndFaultsStaySafe : Prop :=
  ∀ s t : State, LockSafe s → FaultsSafe s.faults → step s = .next t →
    LockSafe t ∧ FaultsSafe t.faults

/-- Every step keeps the bridges safe: duties within ±950, a channel that is not ON undriven, no channel ON
that its mode does not want, none OFF that it wants, and none TRIPPED that it does not want once its
over-current kind is CLEAR (R131, R133, R134, R138, R140). -/
def Obligations.BridgesStaySafe : Prop :=
  ∀ s t : State, BridgesSafe s → step s = .next t → BridgesSafe t

/-- Every step keeps the report rings safe: at most 16 published unreleased frames, within the area, at
even offsets (R174, R175). -/
def Obligations.RingsStaySafe : Prop :=
  ∀ s t : State, RingsSafe s.port → step s = .next t → RingsSafe t.port

/-- Every step keeps the tables safe: the active bank always passes the commit checks, and no commit is
pending in OFF or HELD (R51, R62, R65). -/
def Obligations.TablesStaySafe : Prop :=
  ∀ s t : State, TablesSafe s → step s = .next t → TablesSafe t

/-! ### Arithmetic (R1) -/

/-- Rounded division gives the nearest integer, and halves are rounded away from zero (R1); the division of
natural numbers, which the wheels use, is the same one. -/
def Obligations.RoundedDivision : Prop :=
  (∀ (a : Int) (b : Nat), 0 < b →
    2 * (rdiv a b * b - a).natAbs ≤ b ∧
    (2 * (rdiv a b * b - a).natAbs = b → a.natAbs < (rdiv a b * b).natAbs)) ∧
  ∀ a b : Nat, 0 < b → (rdivNat a b : Int) = rdiv a b

/-! ### The lean-steer law (R27 to R50) -/

/-- The lookup of the lean map, once the axes rise strictly (R33, R34, Table 2-3). The speed and the steering
angle are clamped to their axes; the segment on each is the one whose lower breakpoint is at most the value
and whose upper one is above it, the last one taking its top breakpoint in too; the fractions are truncated
to parts of 1024; each row is interpolated along the steering axis and the target between the two rows, with
rounding. At a grid point, and beyond the ends at the nearest one, the target is the entry; it lies within
the span of the entries everywhere. -/
def Obligations.MapTarget : Prop :=
  ∀ (b : Bank) (v : Nat) (delta : Int),
    strictlyRising b.speedAxis.toList = true → strictlyRising b.steerAxis.toList = true →
    let speed (i : Fin 8) : Int := b.speedAxis[i]
    let steer (j : Fin 9) : Int := b.steerAxis[j]
    let map (i : Fin 8) (j : Fin 9) : Int := b.leanMap[i][j]
    let x : Int := max (speed 0) (min (speed 7) v)
    let y : Int := max (steer 0) (min (steer 8) delta)
    let toward (start stop fraction : Int) : Int := start + rdiv ((stop - start) * fraction) 1024
    (∀ (i : Fin 7) (j : Fin 8),
      speed i.castSucc ≤ x → x < speed i.succ ∨ i = 6 →
      steer j.castSucc ≤ y → y < steer j.succ ∨ j = 7 →
      let fs := (x - speed i.castSucc) * 1024 / (speed i.succ - speed i.castSucc)
      let fd := (y - steer j.castSucc) * 1024 / (steer j.succ - steer j.castSucc)
      let row (k : Fin 8) : Int := toward (map k j.castSucc) (map k j.succ) fd
      b.mapTarget v delta = toward (row i.castSucc) (row i.succ) fs) ∧
    (∀ (i : Fin 8) (j : Fin 9), x = speed i → y = steer j → b.mapTarget v delta = map i j) ∧
    ∀ lo hi : Int, (∀ i j, lo ≤ map i j ∧ map i j ≤ hi) →
      lo ≤ b.mapTarget v delta ∧ b.mapTarget v delta ≤ hi

/-- The schedule and the two limits it feeds: a column takes its end values below the first point and from
the last point on, and between two points is interpolated and rounded (R35); the effective authority by
mode (Table 2-4) and its bounds, never above 1000, and in ACTIVE with degrade in force never above the
degrade cap (R36); the effective steer gain, 0 with TORQUE LOST and else capped while degrade is in force
(R37). -/
def Obligations.EffectiveAuthority : Prop :=
  ∀ (t : Taken) (v : Nat),
    strictlyRising t.bank.scheduleSpeeds = true →
    (∀ k : Nat, k < 6 → (t.bank.point k).authority ≤ 1000) →
    let point (k : Nat) : SchedulePoint := t.bank.point k
    let cap : Int := t.bank.tuning.degradeCap
    let authority := t.bank.column SchedulePoint.authority v
    let gain := t.bank.column SchedulePoint.steerGain v
    (∀ f : SchedulePoint → Nat,
      (v ≤ (point 0).speed → t.bank.column f v = f (point 0)) ∧
      ((point 5).speed ≤ v → t.bank.column f v = f (point 5)) ∧
      (∀ k : Nat, k < 5 → (point k).speed ≤ v → v < (point (k + 1)).speed →
        t.bank.column f v = f (point k) +
          rdiv (((f (point (k + 1)) : Int) - f (point k)) * ((v : Int) - (point k).speed))
            ((point (k + 1)).speed - (point k).speed))) ∧
    (t.mode = .releasing ∨ t.mode = .capturing ∨ t.mode = .engaging →
      effectiveAuthority t v = 1000) ∧
    (t.mode = .off ∨ t.mode = .held ∨ t.mode = .safe → effectiveAuthority t v = 0) ∧
    (t.mode = .active → t.degrade = false → effectiveAuthority t v = authority) ∧
    (t.mode = .active → t.degrade = true → effectiveAuthority t v = min authority cap) ∧
    0 ≤ effectiveAuthority t v ∧ effectiveAuthority t v ≤ 1000 ∧
    effectiveGain t true v = 0 ∧
    (t.degrade = false → effectiveGain t false v = gain) ∧
    (t.degrade = true → effectiveGain t false v = min gain cap)

/-- The tilt torque of a computation (R32, R38 to R43): the law's torque is formed from the lean error
against the mode's target lean and scaled by the authority, in SAFE it is the damping torque alone, opposed
to the roll rate; the output is 0 in OFF and HELD; in the other modes the slewed torque m lies between the
clamped previous output and the clamped torque and moves by at most slew_tilt; up to the soft lean limit the
output is m, beyond it m is kept where it does not have the sign of the lean angle and cut to 0 where it
has. That the cut follows R42 against the last paragraph of section 2.12 is log entry 33. -/
def Obligations.TiltTorque : Prop :=
  ∀ (t : Taken) (x : Inputs) (prevTilt prevSteer : Int) (cycle : Word),
    let u := t.bank.tuning
    let phi := x.served.phi
    let phiDot := x.served.phiDot
    let r := computeResults t x prevTilt prevSteer cycle
    let auth := authTorque t r.phiStar phi phiDot r.aEff
    let start := clampSym u.tmaxTilt prevTilt
    let target := clampSym u.tmaxTilt auth
    (t.mode = .releasing ∨ t.mode = .capturing ∨ t.mode = .engaging → r.phiStar = 0) ∧
    (t.mode = .off ∨ t.mode = .held ∨ t.mode = .active ∨ t.mode = .safe →
      r.phiStar = t.bank.mapTarget x.v x.served.delta) ∧
    r.aEff = effectiveAuthority t x.v ∧
    (t.mode ≠ .safe →
      auth = rdiv (rdiv (u.kp * (r.phiStar - phi) - u.kd * phiDot) 100 * r.aEff) 1000) ∧
    (t.mode = .safe → auth = rdiv (-(u.kdSafe : Int) * phiDot) 100 ∧ auth * phiDot ≤ 0) ∧
    (t.mode = .off ∨ t.mode = .held → r.tTilt = 0) ∧
    r.tTilt.natAbs ≤ u.tmaxTilt ∧
    (t.mode ≠ .off → t.mode ≠ .held → ∃ m : Int,
      (m - start).natAbs ≤ u.slewTilt ∧
      ((start ≤ m ∧ m ≤ target) ∨ (target ≤ m ∧ m ≤ start)) ∧
      ((target - start).natAbs ≤ u.slewTilt → m = target) ∧
      (u.slewTilt < (target - start).natAbs → (m - start).natAbs = u.slewTilt) ∧
      (phi.natAbs ≤ u.ls → r.tTilt = m) ∧
      (u.ls < phi.natAbs → m * phi ≤ 0 → r.tTilt = m) ∧
      (u.ls < phi.natAbs → 0 < m * phi → r.tTilt = 0))

/-- The steer torque of a computation: 0 in OFF and SAFE, within ±Tmax_steer always, and in the other
modes moved from the clamped previous output toward the clamped torque, to it where it lies within
slew_steer and by slew_steer otherwise (R45). The current setpoints: each torque
converted, before the clamp within ±60000 for tables in range, and clamped to its limit, the tilt setpoint
0 in OFF and HELD (R46). -/
def Obligations.SteerTorqueAndSetpoints : Prop :=
  ∀ (t : Taken) (x : Inputs) (prevTilt prevSteer : Int) (cycle : Word),
    let u := t.bank.tuning
    let r := computeResults t x prevTilt prevSteer cycle
    let raw := rdiv (x.served.tauR * r.gEff) 1000 -
      rdiv (t.bank.column SchedulePoint.kds x.v * x.deltaDot) 100
    let start := clampSym u.tmaxSteer prevSteer
    let target := clampSym u.tmaxSteer raw
    r.gEff = effectiveGain t x.torqueLost x.v ∧
    (t.mode = .off ∨ t.mode = .safe → r.tSteer = 0) ∧
    r.tSteer.natAbs ≤ u.tmaxSteer ∧
    (t.mode ≠ .off → t.mode ≠ .safe →
      ((target - start).natAbs ≤ u.slewSteer → r.tSteer = target) ∧
      (start + u.slewSteer < target → r.tSteer = start + u.slewSteer) ∧
      (target < start - u.slewSteer → r.tSteer = start - u.slewSteer)) ∧
    r.iTilt = clampSym u.iLimitTilt (rdiv (r.tTilt * 1000) u.ktTilt) ∧
    r.iSteer = clampSym u.iLimitSteer (rdiv (r.tSteer * 1000) u.ktSteer) ∧
    r.iTilt.natAbs ≤ u.iLimitTilt ∧ r.iSteer.natAbs ≤ u.iLimitSteer ∧
    (t.mode = .off ∨ t.mode = .held → r.iTilt = 0) ∧
    (100 ≤ u.ktTilt → u.tmaxTilt ≤ 6000 → (rdiv (r.tTilt * 1000) u.ktTilt).natAbs ≤ 60000) ∧
    (100 ≤ u.ktSteer → u.tmaxSteer ≤ 2500 → (rdiv (r.tSteer * 1000) u.ktSteer).natAbs ≤ 60000)

/-- CONTROL_CYCLE_EXPIRY at the counter's value starts a computation on the mode, the active bank and the
degrade flag as they stand, takes the next cycle number, serves the four values, forms the steering rate and
takes the fused speed, keeps the law's outputs, and delivers nothing yet; the tables, the bus master, the
converter and the exchange memory are as before (R27, R28, R30, R31, R43, R45). That the results are formed
at the expiry is the model's choice (log entry 12), as is that an expiry with another value than the
counter's has no effect (log entry 5). -/
def Obligations.ControlCycleExpiry : Prop :=
  ∀ (s : State) (n : Nat), s.law.timer = some n → s.law.computing = none →
    let now := s.wheels.counter
    let cycle : Word := if s.law.started then s.law.cycle + 1 else 0
    let started : State :=
      { s with law := { s.law with timer := some 2000, cycle := cycle, started := true } }
    let served := (selectorStage s.seq.mode started).2
    (∀ other : Stamp, other ≠ now → exec (.controlCycleExpiry other) s = .next s) ∧
    ∃ t, exec (.controlCycleExpiry now) s = .next t ∧
      let x : Inputs :=
        { served := served, v := t.wheels.heldSpeed
          deltaDot := clampInt (-30000) 30000 ((served.delta - s.law.prevDelta) * 500)
          torqueLost := t.sel.torque.state == .lost }
      let r := computeResults { mode := s.seq.mode, bank := s.tables.activeBank,
                                degrade := s.faults.degradeInForce } x s.law.prevTilt s.law.prevSteer cycle
      t.law = { started.law with prevTilt := r.tTilt, prevSteer := r.tSteer, prevDelta := served.delta,
                                 computing := some { results := r, age := 0 } } ∧
      t.wheels.counter = now ∧ t.sel.prevPhi = served.phi ∧
      t.tables = s.tables ∧ t.bus = s.bus ∧ t.conv = s.conv ∧ t.port.mem = s.port.mem ∧
      t.drive.tilt.setpoint = s.drive.tilt.setpoint ∧ t.drive.steer.setpoint = s.drive.steer.setpoint ∧
      t.phase = s.phase

/-- COMPUTATION_COMPLETE delivers the results: the results record whole, both setpoints, the speed at last
cycle end, and the sequencer as its cycle end leaves it; the law's kept state, the bus master, the
selector, the wheels, the converter, the fault table and the exchange memory are as before (R47, R48,
R49). -/
def Obligations.ComputationComplete : Prop :=
  ∀ (s : State) (c : Computation), s.law.computing = some c →
    ∃ t, exec .computationComplete s = .next t ∧
      t.law = { s.law with computing := none, results := c.results } ∧
      t.drive.tilt.setpoint = c.results.iTilt ∧ t.drive.steer.setpoint = c.results.iSteer ∧
      t.seq.lastSpeed = c.results.v ∧
      t.seq = (cycleEnd { s with law := t.law, drive := s.drive.takeSetpoints c.results }).seq ∧
      t.bus = s.bus ∧ t.sel = s.sel ∧ t.wheels = s.wheels ∧ t.conv = s.conv ∧ t.faults = s.faults ∧
      t.port.mem = s.port.mem ∧ t.tables.pendingBank = s.tables.pendingBank ∧ t.phase = s.phase

/-! ### The sequencer (R2 to R26) -/

/-- At a cycle end in HELD the lock is released exactly when the four conditions hold, and both channels take
wanted ON: an OFF channel enters ON with its integrator, run and duties 0 and its setpoint kept, another
keeps its state (R12, R133); else nothing changes but the speed kept (R14). -/
def Obligations.CycleEndInHeld : Prop :=
  ∀ s : State, s.seq.mode = .held →
    let t := cycleEnd s
    let release := s.seq.lockRequested = false ∧ s.tuning.vRel ≤ s.law.results.v ∧
      s.seq.holdOff = none ∧ s.faults.safeClassPresent = false
    let on (c : Channel) : Channel :=
      if c.state = .off then
        { state := .on, wanted := true, setpoint := c.setpoint, integrator := 0, duty := 0, applied := 0
          overRun := 0 }
      else { c with wanted := true }
    (release → t.seq = { s.seq with mode := .releasing, solenoid := true, lockLimit := some 150000,
                                    latchHolding := false, lastSpeed := s.law.results.v } ∧
      t.drive = { s.drive.command s.seq.solenoid true with
        tilt := on s.drive.tilt, steer := on s.drive.steer } ∧
      t.port = (stage (.modeChanged .held .releasing .speed) s).port ∧
      t.tables = s.tables ∧ t.faults = s.faults ∧ t.law = s.law ∧ t.bus = s.bus ∧ t.sel = s.sel ∧
      t.wheels = s.wheels ∧ t.conv = s.conv) ∧
    (¬ release → t = { s with seq := { s.seq with lastSpeed := s.law.results.v } })

/-- At a cycle end in RELEASING the release is given up on a lock request, and otherwise below v_cap; with
the pin not seated the mode becomes ENGAGING, the solenoid drops and the engage limit starts, with it seated
HELD follows at once, with a second MODE_CHANGED and then the swap request (R17, R20, R26). At a cycle end in
ACTIVE a capture starts below v_cap with cause speed, and else on a lock request below v_rel with cause lock
request (R18). Each mode change stages its MODE_CHANGED and gives the stage and both channels what the mode
wants (R2, R3, R133; log entry 22 for the tilt channel in HELD). -/
def Obligations.CycleEndInReleasingAndActive : Prop :=
  ∀ s : State,
    let t := cycleEnd s
    let v := s.law.results.v
    let unchanged : State := { s with seq := { s.seq with lastSpeed := v } }
    let givenUp := s.seq.lockRequested = true ∨ v < s.tuning.vCap
    let capturing : Sequencer :=
      { s.seq with mode := .capturing, solenoid := true, lockLimit := none, latchHolding := false,
                   captureCount := 0, lastSpeed := v }
    let engaging : Sequencer :=
      { s.seq with mode := .engaging, solenoid := false, lockLimit := some 150000, latchHolding := false,
                   lastSpeed := v }
    let held : Sequencer :=
      { engaging with mode := .held, lockLimit := none, captureCount := 0, attemptCount := 0 }
    let given : State :=
      s.modeChanged (if s.seq.lockRequested then .lockRequest else .speed) engaging true true
    (s.seq.mode = .releasing → ¬ givenUp → t = unchanged) ∧
    (s.seq.mode = .releasing → givenUp → s.seq.lockDrive ≠ .engaged → t = given) ∧
    (s.seq.mode = .releasing → givenUp → s.seq.lockDrive = .engaged →
      t = requestSwap (given.modeChanged .lockContact held false true)) ∧
    (s.seq.mode = .active → v < s.tuning.vCap → t = s.modeChanged .speed capturing true true) ∧
    (s.seq.mode = .active → s.tuning.vCap ≤ v → s.seq.lockRequested = true → v < s.tuning.vRel →
      t = s.modeChanged .lockRequest capturing true true) ∧
    (s.seq.mode = .active → s.tuning.vCap ≤ v → (s.seq.lockRequested = false ∨ s.tuning.vRel ≤ v) →
      t = unchanged) ∧
    t.faults = s.faults ∧ t.bus = s.bus ∧ t.conv = s.conv

/-- At a cycle end in CAPTURING the part returns to ACTIVE at v_rel without a lock request, and otherwise
counts steady cycles: the fifth in succession enters ENGAGING, or with the pin already seated HELD at once,
with a second MODE_CHANGED and then the swap request, and an unsteady one returns the count to 0 (R3, R19,
R20, R26; log entry 22 for the tilt channel in HELD; that the count stays 5 in ENGAGING is log entry 30). In
SAFE a holding latch is released, with the solenoid command, once the speed is below v_cap; a released latch
stays released. OFF and ENGAGING keep the speed alone (R14, R20, R24). -/
def Obligations.CycleEndInOtherModes : Prop :=
  ∀ s : State,
    let t := cycleEnd s
    let v := s.law.results.v
    let unchanged : State := { s with seq := { s.seq with lastSpeed := v } }
    let riding := s.tuning.vRel ≤ v ∧ s.seq.lockRequested = false
    let steady := s.law.results.phi.natAbs ≤ s.tuning.captureBand ∧
      s.law.results.phiDot.natAbs ≤ s.tuning.captureRate
    let active : Sequencer :=
      { s.seq with mode := .active, solenoid := true, lockLimit := none, latchHolding := false,
                   captureCount := 0, lastSpeed := v }
    let engaging : Sequencer :=
      { s.seq with mode := .engaging, solenoid := false, lockLimit := some 150000, latchHolding := false,
                   captureCount := 5, lastSpeed := v }
    let held : Sequencer :=
      { engaging with mode := .held, lockLimit := none, captureCount := 0, attemptCount := 0 }
    let qualified : State := s.modeChanged .captureQualified engaging true true
    (s.seq.mode = .off ∨ s.seq.mode = .engaging → t = unchanged) ∧
    (s.seq.mode = .capturing →
      (riding → t = s.modeChanged .speed active true true) ∧
      (¬ riding → steady → s.seq.captureCount < 4 →
        t = { s with seq := { s.seq with captureCount := s.seq.captureCount + 1, lastSpeed := v } }) ∧
      (¬ riding → steady → 4 ≤ s.seq.captureCount →
        (s.seq.lockDrive ≠ .engaged → t = qualified) ∧
        (s.seq.lockDrive = .engaged → t = requestSwap (qualified.modeChanged .lockContact held false true) ∧
          t.tables.commitPending = false)) ∧
      (¬ riding → ¬ steady →
        t = { s with seq := { s.seq with captureCount := 0, lastSpeed := v } })) ∧
    (s.seq.mode = .safe → s.seq.latchHolding = true → v < s.tuning.vCap →
      t = { s with seq := { s.seq with latchHolding := false, solenoid := false, lastSpeed := v }
                   drive := s.drive.command s.seq.solenoid false }) ∧
    (s.seq.mode = .safe → s.seq.latchHolding = false ∨ s.tuning.vCap ≤ v → t = unchanged)

/-- ENABLE, DISABLE and RECOVER by mode: ENABLE enters HELD from OFF when the five checks pass, and is
refused NOT_READY with the first failing one, the quantity states being those the last computation left, or
MODE; DISABLE enters OFF from HELD, and from SAFE with the pin seated below v_cap; RECOVER leaves SAFE, for
HELD with the pin seated and else for CAPTURING, once no SAFE-class fault is present (R10, R11, R14, R25).
Each change stages MODE_CHANGED with cause directive, the solenoid stage follows the command, and each
channel takes the wanted state of the new mode by Table 8-3 (R3, R133; that the over-current run returns to 0
in OFF is log entry 22); an entry into HELD, and into OFF from SAFE, is followed by the swap request (R26,
R65). LOCK_HOLD sets the host lock flag alone (R9). A SAFE-class fault is present exactly when some kind that
is not CLEAR has effective reaction SAFE, which is its reaction in force unless it is escalated (R146, R151);
the code that RECOVER's refusal carries is the least among such kinds' codes (R25, Table 11-6). -/
def Obligations.ModeDirectives : Prop :=
  ∀ (tag b : Byte) (s : State),
    let enable := deliver .enable tag [] s
    let disable := deliver .disable tag [] s
    let recover := deliver .recover tag [] s
    let quantities := s.sel.lean.shown.state ≠ .lost ∧ s.sel.rate.shown.state ≠ .lost
    let ready := s.bus.allJoined = true ∧ quantities ∧ s.seq.lockDrive = .engaged ∧ s.tables.generation ≠ 0 ∧
      s.faults.safeClassPresent = false
    let standing (m : Mode) : Sequencer :=
      { s.seq with mode := m, solenoid := false, lockLimit := none, latchHolding := false,
                   captureCount := 0, attemptCount := 0 }
    let toHeld : State := requestSwap (s.modeChanged .directive (standing .held) false true)
    let toOff : State := s.modeChanged .directive (standing .off) false false
    let toCapturing : State :=
      s.modeChanged .directive { standing .capturing with solenoid := true } true true
    let safeClass (k : FaultKind) : Prop :=
      (s.faults.get k).state ≠ .clear ∧ (s.faults.get k).effective = .safe
    (∀ k : FaultKind, (s.faults.get k).effective =
      if (s.faults.get k).escalated = true then .safe else (s.faults.get k).reaction) ∧
    (s.faults.safeClassPresent = true ↔ ∃ k : FaultKind, safeClass k) ∧
    (∀ k : FaultKind, safeClass k → (∀ j : FaultKind, safeClass j → k.code ≤ j.code) →
      s.faults.lowestSafeClass = k.code) ∧
    (s.bus.allJoined = true ↔ (∃ i : Fin 6, (s.bus.device i).cfg.enabled = true) ∧
      ∀ i : Fin 6, (s.bus.device i).cfg.enabled = true → (s.bus.device i).run.joined = true) ∧
    (s.seq.mode ≠ .off → enable = (s, some (.plain .mode s.seq.mode.code))) ∧
    (s.seq.mode = .off → ready → enable = (toHeld, some (.plain .accepted 0))) ∧
    (s.seq.mode = .off → ¬ ready → enable.1 = s ∧
      enable.2 = some (.plain .notReady (if s.bus.allJoined = false then 1 else
        if ¬ quantities then 2 else if s.seq.lockDrive ≠ .engaged then 3 else
        if s.tables.generation = 0 then 4 else 5))) ∧
    (s.seq.mode = .off → disable = (s, some (.plain .accepted 0))) ∧
    (s.seq.mode = .held → disable = (toOff, some (.plain .accepted 0))) ∧
    (s.seq.mode = .safe → s.seq.lockDrive = .engaged → s.seq.lastSpeed < s.tuning.vCap →
      disable = (requestSwap toOff, some (.plain .accepted 0)) ∧
        disable.1.tables.commitPending = false) ∧
    (s.seq.mode = .safe → s.seq.lockDrive ≠ .engaged ∨ s.tuning.vCap ≤ s.seq.lastSpeed →
      disable = (s, some (.plain .notStopped s.seq.mode.code))) ∧
    (s.seq.mode ≠ .off → s.seq.mode ≠ .held → s.seq.mode ≠ .safe →
      disable = (s, some (.plain .notStopped s.seq.mode.code))) ∧
    (s.seq.mode ≠ .safe → recover = (s, some (.plain .mode s.seq.mode.code))) ∧
    (s.seq.mode = .safe → s.faults.safeClassPresent = true →
      recover = (s, some (.plain .faultsPresent s.faults.lowestSafeClass))) ∧
    (s.seq.mode = .safe → s.faults.safeClassPresent = false → s.seq.lockDrive = .engaged →
      recover = (toHeld, some (.plain .accepted 0))) ∧
    (s.seq.mode = .safe → s.faults.safeClassPresent = false → s.seq.lockDrive ≠ .engaged →
      recover = (toCapturing, some (.plain .accepted 0))) ∧
    deliver .lockHold tag [b] s =
      ({ s with seq := { s.seq with hostLock := decide (b ≠ 0) } },
        some (.plain .accepted (if s.seq.lrq.level = true ∨ b ≠ 0 then 1 else 0)))

/-- CONTACT_LINE_CHANGE: a movement of a line away from its debounced level starts the 5 ms, a movement
back stops them, and nothing else changes (R5); while a reset lasts only the line moves (log entry 8).
CONTACT_ACCEPTED: the debounced level takes the line's level; a change of LRQ, or of a lock contact that
leaves the lock drive state, changes nothing else (R5, R6, R9). -/
def Obligations.ContactChanges : Prop :=
  ∀ (l : Line) (closed : Bool) (s : State),
    let c := s.seq.contact l
    let moved (d : Timer) : State := { s with seq := s.seq.setContact l { c with line := closed, debounce := d } }
    let accepted := s.seq.setContact l { c with level := c.line, debounce := none }
    (s.phase = .running → closed ≠ c.line → closed ≠ c.level →
      exec (.contactLineChange l closed) s = .next (moved (some 5000))) ∧
    (s.phase = .running → closed ≠ c.line → closed = c.level →
      exec (.contactLineChange l closed) s = .next (moved none)) ∧
    (s.phase = .running → closed = c.line → exec (.contactLineChange l closed) s = .next s) ∧
    (s.phase ≠ .running → exec (.contactLineChange l closed) s = .next (moved c.debounce)) ∧
    (∀ n : Nat, c.debounce = some n → ∃ t, exec (.contactAccepted l) s = .next t ∧
      t.seq.contact l = { c with level := c.line, debounce := none } ∧
      t.seq.lockDrive = accepted.lockDrive ∧
      (accepted.lockDrive = s.seq.lockDrive → t = { s with seq := accepted }) ∧
      t.bus = s.bus ∧ t.sel = s.sel ∧ t.wheels = s.wheels ∧ t.conv = s.conv ∧ t.law = s.law ∧
      t.port.mem = s.port.mem)

/-- Lock drive changes by mode, each with the whole state it leaves: in HELD the pin's leaving raises
LOCK_POSITION_LOST and brings SAFE; in RELEASING full withdrawal brings ACTIVE; in ENGAGING the seated pin
brings HELD with both counts 0 and no commit left pending; in the other modes, and on the other changes, the
sequencer takes the new level and nothing else (R13, R15, R20, R26). Entering CONFLICT raises
LOCK_CONTACTS_CONFLICT in every mode, with SAFE outside OFF, and leaving it ends the kind (R6); a change into
ENGAGED ends LOCK_POSITION_LOST (R13), after the other kind where both end (log entry 20). A mode change
comes last, its MODE_CHANGED with cause lock contact, and an entry into HELD makes the swap request after it
(R3, R26, R133; log entry 22 for the tilt channel in HELD). -/
def Obligations.LockDriveChanges : Prop :=
  ∀ (l : Line) (s : State) (n : Nat), (s.seq.contact l).debounce = some n →
    FaultsSafe s.faults →
    let c := s.seq.contact l
    let accepted := s.seq.setContact l { c with level := c.line, debounce := none }
    let before := s.seq.lockDrive
    let after := accepted.lockDrive
    let ended (r : FaultRecord) : FaultRecord :=
      if r.state = .active then { r with state := .latched } else r
    let taken : State := { s with seq := accepted }
    let unconflicted : State :=
      if before = .conflict ∧ after ≠ .conflict then endFault .lockContactsConflict taken else taken
    let told : State :=
      if before ≠ .engaged ∧ after = .engaged then endFault .lockPositionLost unconflicted
      else unconflicted
    let active : Sequencer :=
      { accepted with mode := .active, solenoid := true, lockLimit := none, latchHolding := false }
    let held : Sequencer :=
      { accepted with mode := .held, solenoid := false, lockLimit := none, latchHolding := false,
                      attemptCount := 0, captureCount := 0 }
    ∃ t, exec (.contactAccepted l) s = .next t ∧
      t.seq.lockDrive = after ∧
      let raised (k : FaultKind) : Prop := (t.faults.get k).state = .active ∧
        (t.faults.get k).count = bump 255 (s.faults.get k).count
      let left := s.seq.mode = .held ∧ before = .engaged ∧ (after = .moving ∨ after = .released)
      let withdrawn := s.seq.mode = .releasing ∧ before ≠ .released ∧ after = .released
      let seated := s.seq.mode = .engaging ∧ before ≠ .engaged ∧ after = .engaged
      let conflicts := before ≠ .conflict ∧ after = .conflict
      (left → t = raise .lockPositionLost 0 taken ∧ t.seq.mode = .safe ∧ raised .lockPositionLost) ∧
      (withdrawn → t = told.modeChanged .lockContact active true true) ∧
      (seated → t = requestSwap (told.modeChanged .lockContact held false true) ∧
        t.tables.commitPending = false) ∧
      (conflicts → t = raise .lockContactsConflict 0 taken ∧ raised .lockContactsConflict ∧
        (s.seq.mode ≠ .off → t.seq.mode = .safe)) ∧
      (¬ left → ¬ withdrawn → ¬ seated → ¬ conflicts → t = told) ∧
      (before = .conflict → after ≠ .conflict →
        t.faults.get .lockContactsConflict = ended (s.faults.get .lockContactsConflict)) ∧
      (before ≠ .engaged → after = .engaged →
        t.faults.get .lockPositionLost = ended (s.faults.get .lockPositionLost)) ∧
      (¬ left → after ≠ .engaged ∨ before = .engaged →
        t.faults.get .lockPositionLost = s.faults.get .lockPositionLost) ∧
      (before ≠ .conflict → after ≠ .conflict →
        t.faults.get .lockContactsConflict = s.faults.get .lockContactsConflict) ∧
      (∀ k : FaultKind, k ≠ .lockPositionLost → k ≠ .lockContactsConflict →
        t.faults.get k = s.faults.get k) ∧
      (s.seq.mode = .off ∨ s.seq.mode = .safe → t.seq = accepted) ∧
      (s.seq.mode = .active ∨ s.seq.mode = .capturing → after ≠ .conflict → t.seq = accepted) ∧
      (s.seq.mode = .held → after ≠ .conflict → ¬ left → t.seq = accepted) ∧
      (s.seq.mode = .releasing → after ≠ .conflict → after ≠ .released → t.seq = accepted) ∧
      (s.seq.mode = .engaging → after ≠ .conflict → after ≠ .engaged → t.seq = accepted) ∧
      t.law = s.law ∧ t.bus = s.bus ∧ t.sel = s.sel ∧ t.wheels = s.wheels ∧ t.conv = s.conv ∧
      t.port.mem = s.port.mem

/-- RELEASE_LIMIT_EXPIRY in RELEASING starts the hold-off, gives the release up into ENGAGING, or at once
into HELD with the pin still seated and the swap request after it, and raises LOCK_RELEASE_TIMEOUT last; the
part is in SAFE if that kind's policy is SAFE (R16, R20, R26). ENGAGE_LIMIT_EXPIRY in ENGAGING counts a
failed engagement: below the third the pin is withdrawn and the capture begins again; at the third
LOCK_ENGAGE_FAILED brings SAFE and the count stays 3 (R21). The changes are told with cause timeout, HELD's
with cause lock contact (R3; log entry 22 for the tilt channel in HELD). -/
def Obligations.LockLimitExpiries : Prop :=
  ∀ (s : State) (n : Nat), s.seq.lockLimit = some n → FaultsSafe s.faults →
    let k := FaultKind.lockReleaseTimeout
    let policy := (s.faults.get k).policyReaction
    let framed (t : State) : Prop := t.bus = s.bus ∧ t.sel = s.sel ∧ t.wheels = s.wheels ∧
      t.conv = s.conv ∧ t.law = s.law ∧ t.port.mem = s.port.mem
    let waiting : State := { s with seq := { s.seq with holdOff := some 1000000 } }
    let engaging : Sequencer :=
      { waiting.seq with mode := .engaging, solenoid := false, lockLimit := some 150000,
                         latchHolding := false }
    let held : Sequencer :=
      { engaging with mode := .held, lockLimit := none, captureCount := 0, attemptCount := 0 }
    let given : State := waiting.modeChanged .timeout engaging true true
    (s.seq.mode = .releasing → ∃ t, exec .releaseLimitExpiry s = .next t ∧
      t.seq.holdOff = some 1000000 ∧
      t = raise k 0 (if s.seq.lockDrive = .engaged then
          requestSwap (given.modeChanged .lockContact held false true)
        else given) ∧
      (policy ≠ .safe → s.seq.lockDrive ≠ .engaged →
        t.seq.mode = .engaging ∧ t.seq.lockLimit = some 150000 ∧ t.seq.solenoid = false) ∧
      (policy ≠ .safe → s.seq.lockDrive = .engaged →
        t.seq.mode = .held ∧ t.seq.lockLimit = none ∧ t.seq.solenoid = false) ∧
      (policy = .safe → t.seq.mode = .safe) ∧
      (t.faults.get k).state = .latched ∧
      (t.faults.get k).count = bump 255 (s.faults.get k).count ∧ framed t) ∧
    (s.seq.mode = .engaging → ∃ t, exec .engageLimitExpiry s = .next t ∧
      (s.seq.attemptCount < 2 →
        t = s.modeChanged .timeout
          { s.seq with mode := .capturing, solenoid := true, lockLimit := none, latchHolding := false,
                       captureCount := 0, attemptCount := s.seq.attemptCount + 1 } true true) ∧
      (2 ≤ s.seq.attemptCount →
        t = raise .lockEngageFailed 0 { s with seq := { s.seq with attemptCount := 3, lockLimit := none } } ∧
        t.seq.mode = .safe ∧ t.seq.attemptCount = 3 ∧ t.seq.lockLimit = none ∧
        (t.faults.get .lockEngageFailed).state = .latched) ∧
      t.tables = s.tables ∧ framed t)

/-! ### The fault monitor (R145 to R160) -/

/-- A raise in OFF, or of a kind whose policy is not SAFE, leaves the record R147 and R148 give, stages
FAULT_CHANGED with it, starts the acknowledge timer for DEGRADE and holds the fault line for DEGRADE and
SAFE; the mode and the retained record stay (R22, R147, R148, R156, R157, R158). An end takes an ACTIVE kind
to LATCHED and stages FAULT_CHANGED, and has no effect on another (R149). -/
def Obligations.RaiseAndEnd : Prop :=
  ∀ (k : FaultKind) (n : Nat) (s : State),
    let old := s.faults.get k
    let state : KindState := if k.momentary then .latched else .active
    let count := bump 255 old.count
    let told := (stage (.faultChanged k n state old.policyReaction count) s).port
    let t := raise k n s
    (s.seq.mode = .off ∨ old.policyReaction ≠ .safe →
      t.faults.get k =
        { old with state := state
                   reaction := old.policyReaction
                   timeout := old.policyTimeout
                   acknowledged := false
                   escalated := false
                   ackTimer := if old.policyReaction = .degrade ∧ old.policyTimeout ≠ 0 then
                       some (old.policyTimeout * 10000) else none
                   count := count
                   lastInstance := n } ∧
      (∀ j : FaultKind, j ≠ k → t.faults.get j = s.faults.get j) ∧
      (old.policyReaction = .report → t.faults.minTimer = s.faults.minTimer ∧ t.port = told) ∧
      (old.policyReaction ≠ .report → t.faults.minTimer = some 200000 ∧ t.faults.fltnActive = true ∧
        t.port = { told with cause := if s.faults.fltnActive then s.port.cause
                                      else s.port.cause ||| Cause.faultLineAsserted.mask }) ∧
      t = { s with faults := t.faults, port := t.port } ∧ t.faults.retained = s.faults.retained) ∧
    (old.state = .active → endFault k s =
      { s with faults := s.faults.put k { old with state := .latched }
               port := (stage (.faultChanged k old.lastInstance .latched old.effective old.count) s).port }) ∧
    (old.state ≠ .active → endFault k s = s)

/-- A raise of a kind whose policy is SAFE, outside OFF: FAULT_CHANGED is staged first; in HELD to ENGAGING
the part enters SAFE, the solenoid and its stage follow the latch, the tilt channel is wanted ON and the steer
channel OFF, each taking it by Table 8-3, and MODE_CHANGED is staged after it; in SAFE the mode and the drive
stay; in both the retained record takes the kind, the instance, the mode before, the lean angle, the speed and
the cycle number of the results record, the safe-entry count rises, and the fault line is held (R22, R23,
R24, R133, R147, R150, R156, R158, R160). That the over-current run returns to 0 in OFF is log entry 22. -/
def Obligations.RaiseEntersSafe : Prop :=
  ∀ (k : FaultKind) (n : Nat) (s : State),
    s.seq.mode ≠ .off → (s.faults.get k).policyReaction = .safe →
    let old := s.faults.get k
    let state : KindState := if k.momentary then .latched else .active
    let told := stage (.faultChanged k n state .safe (bump 255 old.count)) s
    let cause := if s.faults.fltnActive then s.port.cause
      else s.port.cause ||| Cause.faultLineAsserted.mask
    let t := raise k n s
    let holding := s.seq.lockDrive != .engaged && decide (s.tuning.vCap ≤ s.seq.lastSpeed)
    let tilt := s.drive.tilt
    let steer := s.drive.steer
    (s.seq.mode ≠ .safe →
      t.seq = { s.seq with mode := .safe, solenoid := holding, latchHolding := holding,
                           lockLimit := none, captureCount := 0 } ∧
      t.drive = { s.drive.command s.seq.solenoid holding with
        tilt := if tilt.state = .off then
            { state := .on, wanted := true, setpoint := tilt.setpoint, integrator := 0, duty := 0, applied := 0
              overRun := 0 }
          else { tilt with wanted := true }
        steer := if steer.state = .on ∨
              (steer.state = .tripped ∧ (t.faults.get .steerOvercurrent).state = .clear) then
            { state := .off, wanted := false, setpoint := steer.setpoint, integrator := steer.integrator
              duty := 0, applied := 0, overRun := 0 }
          else { steer with wanted := false } } ∧
      t.port = { (stage (.modeChanged s.seq.mode .safe .fault) told).port with cause := cause }) ∧
    (s.seq.mode = .safe → t.seq = s.seq ∧ t.drive = s.drive ∧
      t.port = { told.port with cause := cause }) ∧
    t.faults.get k =
      { old with state := state, reaction := .safe, timeout := old.policyTimeout, acknowledged := false,
                 escalated := false, ackTimer := none, count := bump 255 old.count, lastInstance := n } ∧
    (∀ j : FaultKind, j ≠ k → t.faults.get j = s.faults.get j) ∧
    t.faults.minTimer = some 200000 ∧
    t.faults.retained =
      { kind := k.code, lastInstance := n, modeBefore := s.seq.mode, phi := s.law.results.phi,
        v := s.law.results.v, cycle := s.law.results.cycle,
        count := bump 255 s.faults.retained.count } ∧
    t = { s with seq := t.seq, drive := t.drive, faults := t.faults, port := t.port }

/-- ACK_TIMER_EXPIRY: an unacknowledged kind that is not CLEAR escalates, its record otherwise kept, stages
FAULT_CHANGED with reaction SAFE, and brings a SAFE request, whose MODE_CHANGED follows; an acknowledged or
CLEAR kind only loses its timer. The other kinds' records stay (R22, R23, R152, R158). -/
def Obligations.AckTimerExpiry : Prop :=
  ∀ (k : FaultKind) (s : State) (n : Nat), (s.faults.get k).ackTimer = some n →
    let old := s.faults.get k
    let escalates := old.state ≠ .clear ∧ old.acknowledged = false
    let told := stage (.faultChanged k old.lastInstance old.state .safe old.count) s
    ∃ t, exec (.ackTimerExpiry k) s = .next t ∧
      (escalates → t.faults.get k = { old with ackTimer := none, escalated := true } ∧
        (t.faults.get k).effective = .safe ∧
        (s.seq.mode = .off → t.seq = s.seq ∧ t.drive = s.drive ∧ t.port = told.port ∧
          t.faults.retained = s.faults.retained) ∧
        (s.seq.mode = .safe → t.seq = s.seq ∧ t.drive = s.drive ∧ t.port = told.port) ∧
        (s.seq.mode ≠ .off → t.seq.mode = .safe ∧
          t.faults.retained =
            { kind := k.code, lastInstance := old.lastInstance, modeBefore := s.seq.mode,
              phi := s.law.results.phi, v := s.law.results.v, cycle := s.law.results.cycle,
              count := bump 255 s.faults.retained.count }) ∧
        (s.seq.mode ≠ .off → s.seq.mode ≠ .safe →
          t.port = (stage (.modeChanged s.seq.mode .safe .fault) told).port)) ∧
      (¬ escalates → t = { s with faults := s.faults.put k { old with ackTimer := none } }) ∧
      (∀ j : FaultKind, j ≠ k → t.faults.get j = s.faults.get j) ∧
      t.faults.minTimer = s.faults.minTimer ∧
      t = { s with seq := t.seq, drive := t.drive, faults := t.faults, port := t.port }

/-- ACK_FAULT and CLEAR_FAULT by the kind's state (R153, R154): a code of 0 or above 20 is refused, any other
names the kind of that code (Table 9-1), a CLEAR kind answers NO_PENDING, an ACTIVE kind is acknowledged but
never cleared, a LATCHED kind is acknowledged or becomes CLEAR with its policy in force, stages FAULT_CHANGED,
and for an over-current kind lets a TRIPPED channel that is wanted OFF go (R134, R158), its over-current run
then 0 (log entry 22). A raise, a clear and a reset clear the acknowledged flag. -/
def Obligations.AckAndClearFault : Prop :=
  ∀ (b tag : Byte) (s : State),
    let ack := deliver .ackFault tag [b] s
    let clear := deliver .clearFault tag [b] s
    let noticed (c : Channel) : Channel :=
      if c.state = .tripped ∧ c.wanted = false then
        { c with state := .off, duty := 0, applied := 0, overRun := 0 } else c
    (FaultKind.ofCode b.toNat = none ↔ b = 0 ∨ 20 < b.toNat) ∧
    (FaultKind.ofCode b.toNat = none →
      ack = (s, some (.plain .badLength 0)) ∧ clear = (s, some (.plain .badLength 0))) ∧
    ∀ k, FaultKind.ofCode b.toNat = some k →
      let old := s.faults.get k
      k.code = b.toNat ∧
      (old.state = .clear →
        ack = (s, some (.plain .noPending 0)) ∧ clear = (s, some (.plain .noPending 0))) ∧
      (old.state ≠ .clear →
        ack = ({ s with faults := s.faults.put k { old with acknowledged := true, ackTimer := none } },
          some (.plain .accepted 0))) ∧
      (∀ n : Nat, ((raise k n s).faults.get k).acknowledged = false) ∧
      ((FaultMonitor.cleared s.faults.retained).get k).acknowledged = false ∧
      (old.state = .active → clear = (s, some (.plain .accepted 1))) ∧
      (old.state = .latched →
        clear =
          ({ s with
              faults := s.faults.put k { old with state := .clear, acknowledged := false, escalated := false,
                                                  ackTimer := none, reaction := old.policyReaction,
                                                  timeout := old.policyTimeout }
              drive := { s.drive with
                tilt := if k = .tiltOvercurrent then noticed s.drive.tilt else s.drive.tilt
                steer := if k = .steerOvercurrent then noticed s.drive.steer else s.drive.steer }
              port := (stage (.faultChanged k old.lastInstance .clear old.policyReaction old.count) s).port },
            some (.plain .accepted 0)))

/-- SET_FAULT_POLICY: a kind code of 0 or above 20 is refused BAD_LENGTH; a reaction code above 2 is taken
as SAFE, a reaction below the floor of Table 9-1 is raised to it, either counts one clamped value; the policy
takes the reaction and the ack timeout; a CLEAR kind's reaction and ack timeout in force take them too, while
the record of an ACTIVE or LATCHED kind is unchanged, and the new policy governs from its next raise or from
the clear of a LATCHED one. In every mode nothing else changes, so no report is staged. After a reset each
policy holds the default reaction and ack timeout 0 (R155). -/
def Obligations.SetFaultPolicy : Prop :=
  ∀ (b r n tag : Byte) (s : State),
    (FaultKind.ofCode b.toNat = none ↔ b = 0 ∨ 20 < b.toNat) ∧
    (FaultKind.ofCode b.toNat = none →
      deliver .setFaultPolicy tag [b, r, n] s = (s, some (.plain .badLength 0))) ∧
    ∀ k, FaultKind.ofCode b.toNat = some k →
    let asked := if 2 < r.toNat then 2 else r.toNat
    let old := s.faults.get k
    let t := (deliver .setFaultPolicy tag [b, r, n] s).1
    let reaction := (t.faults.get k).policyReaction
    let kept : FaultRecord := { old with policyReaction := reaction, policyTimeout := n.toNat }
    let cleared := (deliver .clearFault tag [b] t).1.faults.get k
    k.code = b.toNat ∧
    k.floor = (if k.code ∈ [2, 4, 9, 11, 12, 13, 14] then .safe else .report) ∧
    reaction.code = max asked k.floor.code ∧
    (old.state = .clear → t.faults.get k = { kept with reaction := reaction, timeout := n.toNat }) ∧
    (old.state ≠ .clear → t.faults.get k = kept) ∧
    (∀ m : Nat, ((raise k m t).faults.get k).reaction = reaction ∧
      ((raise k m t).faults.get k).timeout = n.toNat) ∧
    (old.state = .latched → cleared.state = .clear ∧ cleared.reaction = reaction ∧
      cleared.timeout = n.toNat) ∧
    (∀ j : FaultKind, j ≠ k → t.faults.get j = s.faults.get j) ∧
    t = { s with faults := { s.faults with table := t.faults.table } } ∧
    (deliver .setFaultPolicy tag [b, r, n] s).2 =
      some (if 2 < r.toNat ∨ r.toNat < k.floor.code then .plain .acceptedClamped 1
        else .plain .accepted 0) ∧
    ((FaultMonitor.cleared s.faults.retained).get k).policyTimeout = 0 ∧
    ((FaultMonitor.cleared s.faults.retained).get k).policyReaction =
      (if k.floor = .safe then .safe
        else if k = .steerFallback ∨ k = .wheelDegraded ∨ k = .lockReleaseTimeout ∨
          k = .directiveOverrun then .report
        else .degrade)

/-! ### The calibration tables (R51 to R67) -/

/-- The five commit checks, and the number of the first that fails (Table 3-5). COMMIT_TABLES: refused while
a commit is pending, or with the number of the first failing check; otherwise it swaps at once in OFF and
HELD and waits in the other modes. A swap makes the pending bank active, raises the generation, skipping 0,
and stages TABLES_SWAPPED; a swap request makes it where a commit is pending, and else does nothing (R26,
R62, R63, R65). DISCARD_TABLES copies the active bank to the pending bank and cancels a pending commit, and
is refused NO_PENDING where there is nothing to discard; a second one finds nothing, a swap request after it
makes no swap, and after a swap it finds nothing (R66). -/
def Obligations.CommitSwapAndDiscard : Prop :=
  (∀ b : Bank,
    let passes (n : Nat) : Prop :=
      match n with
      | 1 => ∀ i : Fin 7, b.speedAxis[i.castSucc] < b.speedAxis[i.succ]
      | 2 => ∀ j : Fin 8, b.steerAxis[j.castSucc] < b.steerAxis[j.succ]
      | 3 => ∀ k : Fin 5, b.schedule[k.castSucc].speed < b.schedule[k.succ].speed
      | 4 => b.tuning.vCap < b.tuning.vRel
      | 5 => b.tuning.supplyLow < b.tuning.supplyHigh
      | _ => True
    (b.failingCheck = none ↔ ∀ n, passes n) ∧
    ∀ n, b.failingCheck = some n ↔ ¬ passes n ∧ ∀ m, m < n → passes m) ∧
  ∀ (tag : Byte) (s : State),
    let g : Word := if s.tables.generation = 0xFFFF then 1 else s.tables.generation + 1
    let r := deliver .commitTables tag [] s
    let d := deliver .discardTables tag [] s
    let swapped : State :=
      { s with tables := { activeBank := s.tables.pendingBank, pendingBank := s.tables.pendingBank,
                           commitPending := false, generation := g }
               port := (stage (.tablesSwapped g) s).port }
    let discarded := { s with tables := { s.tables with pendingBank := s.tables.activeBank,
                                                        commitPending := false } }
    (s.tables.commitPending = true → r = (s, some (.plain .pendingCommit 0))) ∧
    (∀ n, s.tables.commitPending = false → s.tables.pendingBank.failingCheck = some n →
      r = (s, some (.plain .invalidTables n)) ∧ 1 ≤ n ∧ n ≤ 5) ∧
    (s.tables.commitPending = false → s.tables.pendingBank.failingCheck = none →
      (s.seq.mode = .off ∨ s.seq.mode = .held →
        r = (swapped, some (.plain .accepted 1)) ∧ g ≠ 0) ∧
      (s.seq.mode ≠ .off → s.seq.mode ≠ .held →
        r = ({ s with tables := { s.tables with commitPending := true } },
          some (.plain .accepted 0)))) ∧
    (s.tables.commitPending = true → requestSwap s = swapped) ∧
    (s.tables.commitPending = false → requestSwap s = s) ∧
    (s.tables.commitPending = true → d = (discarded, some (.plain .accepted 1))) ∧
    (s.tables.commitPending = false → s.tables.pendingBank ≠ s.tables.activeBank →
      d = (discarded, some (.plain .accepted 0))) ∧
    (s.tables.commitPending = false → s.tables.pendingBank = s.tables.activeBank →
      d = (s, some (.plain .noPending 0))) ∧
    deliver .discardTables tag [] d.1 = (d.1, some (.plain .noPending 0)) ∧
    requestSwap d.1 = d.1 ∧
    (s.tables.commitPending = true →
      deliver .discardTables tag [] (requestSwap s) = (requestSwap s, some (.plain .noPending 0)))

/-- The four LOAD directives: LOAD_MAP with row fields out of bounds is refused BAD_LENGTH; while a commit
is pending they are refused PENDING_COMMIT; otherwise they write their table of the pending bank alone,
each value clamped to its range (Tables 3-1 to 3-3), and answer the count of clamped values (R57 to R61). -/
def Obligations.LoadsWritePendingBank : Prop :=
  ∀ (d : Directive) (tag : Byte) (body : List Byte) (s : State),
    d = .loadAxes ∨ d = .loadMap ∨ d = .loadSchedule ∨ d = .loadTuning →
    let r := deliver d tag body s
    let first := byteAt body 0
    let count := byteAt body 1
    let rowsOk := first ≤ 7 ∧ 1 ≤ count ∧ count ≤ 8 ∧ first + count ≤ 8
    let old := s.tables.pendingBank
    let new := r.1.tables.pendingBank
    let out (lo hi : Int) (at_ : Nat → Int) (n : Nat) : Nat :=
      (List.range n).countP fun i => decide (at_ i < lo ∨ hi < at_ i)
    let answer (n : Nat) : Option Done :=
      some (if n = 0 then .plain .accepted 0 else .plain .acceptedClamped (min 255 n))
    let column (c k : Nat) : Nat := unsignedAt body (8 * k + 2 * c)
    let ranges : List (Nat × Nat) :=
      [(0, 2000), (0, 500), (0, 500), (0, 6000), (1, 6000), (0, 2500), (1, 2500), (1000, 4500),
       (50, 1000), (20, 900), (50, 500), (100, 3000), (0, 1000), (100, 3000), (100, 3000),
       (1000, 30000), (1000, 30000), (1000, 32000), (0, 4095), (0, 4095), (20000, 60000),
       (30000, 65000), (500, 1500)]
    let lo (i : Nat) : Nat := (ranges.getD i (0, 0)).1
    let hi (i : Nat) : Nat := (ranges.getD i (0, 0)).2
    let field (i : Nat) : Nat := max (lo i) (min (hi i) (unsignedAt body (2 * i)))
    (d = .loadMap → ¬ rowsOk → r = (s, some (.plain .badLength 0))) ∧
    ((d = .loadMap → rowsOk) → s.tables.commitPending = true →
      r = (s, some (.plain .pendingCommit 0))) ∧
    ((d = .loadMap → rowsOk) → s.tables.commitPending = false →
      r.1 = { s with tables := { s.tables with pendingBank := new } } ∧
      (d = .loadTuning →
        new = { old with tuning :=
          { kp := field 0, kd := field 1, kdSafe := field 2, tmaxTilt := field 3, slewTilt := field 4,
            tmaxSteer := field 5, slewSteer := field 6, ls := field 7, vRel := field 8, vCap := field 9,
            captureBand := field 10, captureRate := field 11, degradeCap := field 12, ktTilt := field 13,
            ktSteer := field 14, iLimitTilt := field 15, iLimitSteer := field 16, tripCurrent := field 17,
            kpi := field 18, ki := field 19, supplyLow := field 20, supplyHigh := field 21,
            hotLimit := field 22 } } ∧
        r.2 = answer ((List.range 23).countP fun i =>
          decide (unsignedAt body (2 * i) < lo i ∨ hi i < unsignedAt body (2 * i)))) ∧
      (d = .loadAxes → new = { old with speedAxis := new.speedAxis, steerAxis := new.steerAxis } ∧
        (∀ i : Nat, i < 8 → new.speedPoint i = clampInt 0 3000 (signedAt body (2 * i))) ∧
        (∀ j : Nat, j < 9 → new.steerPoint j = clampInt (-4000) 4000 (signedAt body (16 + 2 * j))) ∧
        r.2 = answer (out 0 3000 (fun i => signedAt body (2 * i)) 8 +
          out (-4000) 4000 (fun j => signedAt body (16 + 2 * j)) 9)) ∧
      (d = .loadSchedule → new = { old with schedule := new.schedule } ∧
        (∀ k : Nat, k < 6 → new.point k =
          { speed := min 3000 (column 0 k), authority := min 1000 (column 1 k)
            steerGain := min 1000 (column 2 k), kds := min 100 (column 3 k) }) ∧
        r.2 = answer (out 0 3000 (fun k => column 0 k) 6 + out 0 1000 (fun k => column 1 k) 6 +
          out 0 1000 (fun k => column 2 k) 6 + out 0 100 (fun k => column 3 k) 6)) ∧
      (d = .loadMap → new = { old with leanMap := new.leanMap } ∧
        (∀ i j : Nat, i < 8 → j < 9 → new.mapAt i j =
          if first ≤ i ∧ i < first + count then
            clampInt (-4500) 4500 (signedAt body (2 + 18 * (i - first) + 2 * j))
          else old.mapAt i j) ∧
        r.2 = answer (out (-4500) 4500 (fun n => signedAt body (2 + 2 * n)) (9 * count))))

/-! ### The sensor bus master (R68 to R90) -/

/-- SET_DEVICE: an entry index above 5 is refused BAD_LENGTH; outside OFF it is refused MODE with the miss
counts and ages of the six entries as its data; in OFF the entry takes every field of the body, clamped, the
read length raised where it is too short, its run-time fields but the last value as after a reset, a poll of
it on the bus has its result discarded, the answer carries the count of clamped fields and the same data,
and nothing else changes (R70, R72, R73). A quantity byte of 0 to 3 names the quantity of that code (R91). -/
def Obligations.SetDevice : Prop :=
  ∀ (tag : Byte) (body : List Byte) (s : State),
    let r := deliver .setDevice tag body s
    let data : List Byte := (List.finRange 6).flatMap fun i =>
      [byteOfNat (s.bus.device i).run.misses, byteOfNat ((s.bus.device i).run.age.getD 255)]
    let out (lo hi x : Nat) : Nat := if x < lo ∨ hi < x then 1 else 0
    let width := max 1 (min 2 (byteAt body 3))
    let widest : Nat := if width = 1 then 255 else 65535
    let quantity := Quantity.ofCode (min 3 (byteAt body 7))
    let span : Nat := match quantity with
      | .lean => 4500
      | .rate => 30000
      | .steer => 4000
      | .torque => 2500
    let pos := min 6 (byteAt body 8)
    let checked : Bool := byteAt body 14 != 0
    let place := min 7 (byteAt body 15)
    let length := max 1 (min 8 (byteAt body 6))
    let longer := max length (pos + 2)
    let longest := if checked then max longer (place + 1) else longer
    let clamped := out 0 127 (byteAt body 2) + out 1 2 (byteAt body 3) +
      out 0 widest (unsignedAt body 4) + out 1 8 (byteAt body 6) + out 0 3 (byteAt body 7) +
      out 0 6 (byteAt body 8) + (if clampSym span (signedAt body 12) = signedAt body 12 then 0 else 1) +
      (if checked then out 0 7 (byteAt body 15) else 0) + out 0 9000 (unsignedAt body 18) +
      out 1 50 (byteAt body 20) + out 0 length (pos + 2) +
      (if checked then out 0 longer (place + 1) else 0)
    let answer : Done := if clamped = 0 then .plain .accepted 0 else .plain .acceptedClamped clamped
    (∀ c : Nat, c < 4 → (Quantity.ofCode c).code = c) ∧
    (5 < byteAt body 0 → r = (s, some (.plain .badLength 0))) ∧
    ∀ i : Fin 6, byteAt body 0 = i.val →
      (s.seq.mode ≠ .off →
        r = (s, some { outcome := .mode, detail := s.seq.mode.code, data := data })) ∧
      (s.seq.mode = .off →
        r.2 = some { answer with data := data } ∧
        r.1 = { s with bus := { s.bus with devices := r.1.bus.devices, activity := r.1.bus.activity } } ∧
        r.1.bus.device i =
          { cfg :=
              { enabled := byteAt body 1 != 0, address := min 127 (byteAt body 2), regWidth := width
                regAddr := min widest (unsignedAt body 4), readLength := longest, quantity := quantity
                rawPos := pos, little := byteAt body 9 != 0, gain := signedAt body 10
                offset := clampSym span (signedAt body 12)
                status := if checked then some { offset := place, mask := body.getD 16 0,
                                                 expected := body.getD 17 0 } else none
                maxStep := min 9000 (unsignedAt body 18)
                staleLimit := max 1 (min 50 (byteAt body 20)) }
            run := { last := (s.bus.device i).run.last, age := none, misses := 0, joined := false,
                     sampled := false } } ∧
        (∀ j : Fin 6, j ≠ i → r.1.bus.device j = s.bus.device j) ∧
        (∀ j oldRound discard x, s.bus.activity = .poll j oldRound discard x →
          r.1.bus.activity = .poll j oldRound (discard || decide (j = i)) x) ∧
        ((∀ j oldRound discard x, s.bus.activity ≠ .poll j oldRound discard x) →
          r.1.bus.activity = s.bus.activity))

/-- SET_BUS sets the speed in OFF, a code above 1 clamped to 1, and is refused MODE elsewhere; the
transaction on the bus keeps its own speed (R68). PASS_THROUGH as it is taken: a count above 12 is refused
BAD_LENGTH, a queue of 4 QUEUE_FULL, another joins the tail without an answer, and the oldest starts at once
where the bus is READY and idle, the round's polls are done and it has had no pass-through; else it waits
(R80, R81). The wire form of a pass-through by its counts (R69, Table 4-3). -/
def Obligations.SetBusAndPassThrough : Prop :=
  (∀ (tag b : Byte) (s : State),
    (s.seq.mode ≠ .off → deliver .setBus tag [b] s = (s, some (.plain .mode s.seq.mode.code))) ∧
    (s.seq.mode = .off → deliver .setBus tag [b] s =
      ({ s with bus := { s.bus with speed := if b = 0 then .mhz1 else .khz400 } },
        some (if 1 < b.toNat then .plain .acceptedClamped 1 else .plain .accepted 0)))) ∧
  (∀ (tag : Byte) (body : List Byte) (s : State),
    let r := deliver .passThrough tag body s
    let writeCount := byteAt body 1
    let readCount := byteAt body 2
    let p : PassThrough :=
      { tag := tag, address := byteAt body 0 % 128, writes := (body.drop 3).take writeCount
        readCount := readCount }
    let joined : Bus := { s.bus with queue := s.bus.queue ++ [p] }
    (12 < writeCount ∨ 12 < readCount → r = (s, some (.plain .badLength 0))) ∧
    (writeCount ≤ 12 → readCount ≤ 12 → 4 ≤ s.bus.queue.length →
      r = (s, some (.plain .queueFull 4))) ∧
    (writeCount ≤ 12 → readCount ≤ 12 → s.bus.queue.length < 4 →
      r.2 = none ∧
      (s.bus.stuck = true ∨ s.bus.activity ≠ .idle ∨ s.bus.round = .notStarted ∨
        (s.bus.round = .done ∧ s.bus.passUsed = true) → r.1 = { s with bus := joined }) ∧
      (s.bus.stuck = false → s.bus.activity = .idle → s.bus.round = .done → s.bus.passUsed = false →
        ∀ oldest rest, joined.queue = oldest :: rest →
          r.1 = { s with bus := { joined with
            activity := .passThrough { speed := s.bus.speed, wire := oldest.wire }
            passUsed := true } }))) ∧
  (∀ p : PassThrough,
    let address (direction : Nat) : BusElement := .send (byteOfNat (2 * p.address + direction))
    let reads : List BusElement := List.replicate (p.readCount - 1) (.receive true) ++ [.receive false]
    (p.writes = [] → p.readCount = 0 → p.wire = [.start, address 0, .stop]) ∧
    (p.writes = [] → 0 < p.readCount → p.wire = [.start, address 1] ++ reads ++ [.stop]) ∧
    (p.writes ≠ [] → p.readCount = 0 →
      p.wire = [.start, address 0] ++ p.writes.map BusElement.send ++ [.stop]) ∧
    (p.writes ≠ [] → 0 < p.readCount →
      p.wire = [.start, address 0] ++ p.writes.map BusElement.send ++ [.repeatedStart, address 1] ++ reads ++
        [.stop]))

/-- The elements on the lines (R69, R86): a byte sent is eight bits, most significant first, then a released
SDA for the acknowledge; a byte received leaves SDA released for eight bits and then takes the master's
acknowledge; SDA falls once under a high SCL in a start and rises once in a stop, and not within a byte; a
clear is nine clock pulses with SDA released, then a stop, 10 bit periods. A poll writes the register address
of its entry, one byte or two with the most significant first, and after a repeated start reads its length,
each byte acknowledged but the last (R75); its n bytes take 9n + 3. Eight levels read are a byte, most
significant bit first; acknowledged to its end a poll gives the bytes read, and a NACK to a byte it sends
ends it there with a stop. What a level nobody drives reads as is log entry 15. -/
def Obligations.BusElements : Prop :=
  let clocked (l : List Lines) : List Bool := (l.filter fun x => x.scl).map fun x => x.sda
  let edges (l : List Lines) : List Bool :=
    ((l.zip l.tail).filter fun p => p.1.scl && p.2.scl && p.1.sda != p.2.sda).map fun p => p.2.sda
  (∀ b : Byte, clocked (BusElement.send b).lines =
      [b.getLsbD 7, b.getLsbD 6, b.getLsbD 5, b.getLsbD 4, b.getLsbD 3, b.getLsbD 2, b.getLsbD 1,
       b.getLsbD 0, true] ∧ edges (BusElement.send b).lines = []) ∧
  (∀ ack : Bool, clocked (BusElement.receive ack).lines = List.replicate 8 true ++ [!ack] ∧
    edges (BusElement.receive ack).lines = []) ∧
  edges BusElement.start.lines = [false] ∧ edges BusElement.repeatedStart.lines = [false] ∧
  edges BusElement.stop.lines = [true] ∧
  (∀ (v : BusSpeed) (sda : List Bool),
    let x := Transaction.clearAt v
    clocked (x.lines sda) = List.replicate 9 true ++ [false, true] ∧ edges (x.lines sda) = [true] ∧
    x.speed = v ∧ wireBitPeriods x.wire = 10) ∧
  (∀ (b : Byte) (rest : List Bool), readByte (byteBits b ++ rest) = b) ∧
  (∀ (b : Byte) (w : List BusElement) (sda : List Bool),
    carriedOut (.send b :: w) (true :: sda) = [.send b, .stop] ∧
    carriedOut (.send b :: w) (false :: sda) = .send b :: carriedOut w sda) ∧
  ∀ (c : DeviceConfig) (v : BusSpeed) (rest : List Bool), 1 ≤ c.readLength →
    let x : Transaction := { speed := v, wire := c.wire }
    let low (n : Nat) : List Bool := List.replicate n false
    let n := c.registerBytes.length
    let low8 : Byte := BitVec.ofNat 8 c.regAddr
    let address (direction : Nat) : BusElement := .send (BitVec.ofNat 8 (2 * c.address + direction))
    c.registerBytes = (if c.regWidth = 1 then [low8] else [BitVec.ofNat 8 (c.regAddr / 256), low8]) ∧
    c.wire = [.start, address 0] ++ c.registerBytes.map BusElement.send ++ [.repeatedStart, address 1] ++
      List.replicate (c.readLength - 1) (.receive true) ++ [.receive false, .stop] ∧
    wireBitPeriods c.wire = 9 * (n + 2 + c.readLength) + 3 ∧
    (∀ bytes : List Byte, bytes.length = c.readLength →
      x.result (.levels (low (n + 2) ++ bytes.flatMap byteBits)) = .bytes bytes) ∧
    x.result (.levels (true :: rest)) = .nackAddress false ∧
    (∀ k : Nat, k < n → x.result (.levels (low (k + 1) ++ true :: rest)) = .nackData k) ∧
    x.result (.levels (low (n + 1) ++ true :: rest)) = .nackAddress true

/-- ROUND_TIMER_EXPIRY takes the age step of every entry: an enabled one without a sample since the previous
expiry ages by 1, stopping at 255, and leaves the joined set when its age is never or beyond its stale limit;
last values and miss counts stay (R74). The timer runs on and a new round begins: its polls are all to make,
or done where no entry is enabled, and it may admit a pass-through of its own (R75, R81). An idle READY bus
takes up its work at once; a poll on the bus becomes one of an old round, and what is on the bus goes on
(R76). A stuck bus at rest begins a clear (R86, R87); that a clear in progress there goes on is log entry 39.
-/
def Obligations.RoundTimerExpiry : Prop :=
  ∀ (s : State) (n : Nat), s.bus.timer = some n →
    ∃ t, exec .roundTimerExpiry s = .next t ∧ t = { s with bus := t.bus } ∧
      t.bus.timer = some 2000 ∧ t.bus.stuck = s.bus.stuck ∧ t.bus.speed = s.bus.speed ∧
      t.bus.queue = s.bus.queue ∧
      (∀ i : Fin 6,
        let d := s.bus.device i
        let age := if d.run.sampled then d.run.age else d.run.age.map (bump 255)
        (d.cfg.enabled = false → t.bus.device i = d) ∧
        (d.cfg.enabled = true → t.bus.device i =
          { d with run := { d.run with age := age, sampled := false,
                                       joined := d.run.joined && age.any (· ≤ d.cfg.staleLimit) } })) ∧
      let goesOn : BusActivity :=
        match s.bus.activity with
        | .poll i _ discard x => .poll i true discard x
        | other => other
      let renewed : Bus :=
        { s.bus with timer := some 2000, devices := t.bus.devices, activity := goesOn, passUsed := false
                     round := if ∃ i : Fin 6, (s.bus.device i).cfg.enabled = true then .polling none
                       else .done }
      (s.bus.activity ≠ .idle → t.bus = renewed) ∧
      (s.bus.stuck = true → s.bus.activity = .idle → t.bus = { renewed with
        activity := .clear { speed := s.bus.speed, wire := List.replicate 9 .clock ++ [.stop] } }) ∧
      (s.bus.stuck = false → s.bus.activity = .idle → renewed.TakesUp t.bus) ∧
      (∀ i : Fin 6, s.bus.stuck = false → s.bus.activity = .idle →
        (s.bus.device i).cfg.enabled = true → (∀ j : Fin 6, j < i → (s.bus.device j).cfg.enabled = false) →
        t.bus.activity = .poll i false false { speed := s.bus.speed, wire := (s.bus.device i).cfg.wire })

/-- POLL_COMPLETE, for the levels the master read (log entry 15): a valid sample sets the last value, age 0
and the joined flag; an invalid one, a NACK or a low line counts one miss; a discarded result changes nothing
in the entry. The round goes on above the entry polled, its polls done where no enabled index lies above it;
a poll of an old round leaves the new one as it stands (R75, R76). A low line or a stop that does not form
brings a clear; else the bus takes up what is next. The other entries and all blocks but the bus master stay
(R72, R77, R78, R79, R84, R85; log entry 38 in what is next). -/
def Obligations.PollComplete : Prop :=
  ∀ (a : BusAnswer) (stopFormed : Bool) (s : State) (i : Fin 6) (oldRound discard : Bool)
      (x : Transaction),
    s.bus.activity = .poll i oldRound discard x →
    let r := x.result a
    let d := s.bus.device i
    let missed : Device := { d with run := { d.run with misses := bump 255 d.run.misses } }
    ∃ t, exec (.pollComplete a stopFormed) s = .next t ∧ t = { s with bus := t.bus } ∧
      (discard = true → t.bus.device i = d) ∧
      (discard = false → (∀ l, r ≠ .bytes l) → t.bus.device i = missed) ∧
      (∀ bytes, discard = false → r = .bytes bytes →
        let value := d.cfg.quantity.saturate
          (rdiv (d.cfg.raw bytes * d.cfg.gain) 256 + d.cfg.offset)
        let stepFails := d.cfg.maxStep ≠ 0 ∧ d.run.joined = true ∧
          d.cfg.maxStep < (value - d.run.last).natAbs
        let statusFails := ∃ c, d.cfg.status = some c ∧ bytes.getD c.offset 0 &&& c.mask ≠ c.expected
        (stepFails ∨ statusFails → t.bus.device i = missed) ∧
        (¬ stepFails → ¬ statusFails → t.bus.device i =
          { d with run := { d.run with last := value, age := some 0, joined := true,
                                       sampled := true } })) ∧
      (∀ j : Fin 6, j ≠ i → t.bus.device j = s.bus.device j) ∧
      let onward : Bus :=
        { s.bus with
          devices := t.bus.devices
          round := if oldRound = true then s.bus.round
            else if ∃ j : Fin 6, i < j ∧ (s.bus.device j).cfg.enabled = true then .polling (some i)
            else .done }
      (a = .lineLow ∨ stopFormed = false →
        t.bus = { onward with activity := .clear (.clearAt s.bus.speed) }) ∧
      (a ≠ .lineLow → stopFormed = true → onward.TakesUp t.bus) ∧
      t.bus.timer = s.bus.timer ∧ t.bus.stuck = s.bus.stuck ∧ t.bus.queue = s.bus.queue

/-- PASS_THROUGH_COMPLETE stages the DIRECTIVE_DONE of the oldest queued transaction, which leaves the queue:
DONE with the bytes read, or the NACK or the time-out the bus gave; no device entry changes, and the bus
takes up what is next, or is cleared after a low line or a stop that does not form (R75, R81, R82, R83, R84,
R85; log entry 38 in what is next). That a low line leaves the round its one pass-through is log entry 36.
That the levels read are the command's operand, a missing one reading high, is log entry 15, and that the
detail of NACK_ADDRESS is the direction bit of the address byte in a form that only reads too is log entry
25. -/
def Obligations.PassThroughComplete : Prop :=
  ∀ (a : BusAnswer) (stopFormed : Bool) (s : State) (x : Transaction) (p : PassThrough)
      (rest : List PassThrough),
    s.bus.activity = .passThrough x → s.bus.queue = p :: rest →
    let body : ReportBody :=
      match x.result a with
      | .bytes l => .directiveDone p.tag 18 .done p.readCount l
      | .nackAddress readDirection =>
        .directiveDone p.tag 18 .nackAddress (if readDirection then 1 else 0) []
      | .nackData acked => .directiveDone p.tag 18 .nackData acked []
      | .lineLow => .directiveDone p.tag 18 .busTimeout 2 []
    ∃ t, exec (.passThroughComplete a stopFormed) s = .next t ∧
      t = { s with bus := t.bus, port := (stage body s).port } ∧
      t.bus.queue = rest ∧ t.bus.devices = s.bus.devices ∧ t.bus.stuck = s.bus.stuck ∧
      t.bus.timer = s.bus.timer ∧
      let onward : Bus :=
        { s.bus with queue := rest, passUsed := if a = .lineLow then false else s.bus.passUsed }
      (a = .lineLow ∨ stopFormed = false →
        t.bus = { onward with activity := .clear (.clearAt s.bus.speed) }) ∧
      (a ≠ .lineLow → stopFormed = true → onward.TakesUp t.bus)

/-- BUS_CLEAR_COMPLETE: with both lines high the bus is READY, and a STUCK one ends SENSOR_BUS_STUCK; with a
line low a READY bus goes STUCK and raises it, and a STUCK one answers its whole queue and raises nothing,
and the round's polls are done (R86, R87, R88). A bus that is READY again takes up what its round has next
(R75, R81; log entry 38). SCL_HOLD_TIMEOUT: a poll counts one miss, a pass-through ends BUS_TIMEOUT with
detail 0 and leaves the queue, and either way the bus is cleared; a poll whose result is discarded leaves its
entry as it stands (R72, R84); a clear that is given up ends as its lines read (R86). -/
def Obligations.BusClears : Prop :=
  ∀ (sda scl : Bool) (s : State),
    let k := FaultKind.sensorBusStuck
    (∀ x, s.bus.activity = .clear x →
      exec (.sclHoldTimeout sda scl) s = exec (.busClearComplete sda scl) s ∧
      ∃ t, exec (.busClearComplete sda scl) s = .next t ∧
        (sda = true → scl = true → t.bus.stuck = false ∧ t.bus.queue = s.bus.queue ∧
          ({ s.bus with stuck := false } : Bus).TakesUp t.bus ∧
          (s.bus.stuck = false → t.faults = s.faults ∧ t.port = s.port) ∧
          (s.bus.stuck = true → t.faults = (endFault k s).faults ∧ t.port = (endFault k s).port) ∧
          (s.bus.stuck = true → (s.faults.get k).state = .active →
            (t.faults.get k).state = .latched)) ∧
        (sda = false ∨ scl = false →
          t.bus = { s.bus with stuck := true, activity := .idle, round := .done, queue := t.bus.queue } ∧
          (s.bus.stuck = false → t.bus.queue = s.bus.queue ∧ (t.faults.get k).state = .active ∧
            (t.faults.get k).count = bump 255 (s.faults.get k).count) ∧
          (s.bus.stuck = true → t.bus.queue = [] ∧ t.faults = s.faults ∧
            t.port = (s.bus.queue.foldl
              (fun u p => stage (.directiveDone p.tag 18 .busTimeout 1 []) u) s).port)) ∧
        t.bus.devices = s.bus.devices ∧ t.bus.timer = s.bus.timer ∧ t.law = s.law ∧ t.sel = s.sel ∧
        t.wheels = s.wheels ∧ t.conv = s.conv ∧ t.tables = s.tables ∧ t.port.mem = s.port.mem) ∧
    (∀ i oldRound discard x, s.bus.activity = .poll i oldRound discard x →
      ∃ t, exec (.sclHoldTimeout sda scl) s = .next t ∧ t = { s with bus := t.bus } ∧
        (discard = true → t.bus.device i = s.bus.device i) ∧
        (discard = false → t.bus.device i = { s.bus.device i with run :=
          { (s.bus.device i).run with misses := bump 255 (s.bus.device i).run.misses } }) ∧
        (∀ j : Fin 6, j ≠ i → t.bus.device j = s.bus.device j) ∧
        t.bus = { s.bus with
          devices := t.bus.devices
          activity := .clear (.clearAt s.bus.speed)
          round := if oldRound = true then s.bus.round
            else if ∃ j : Fin 6, i < j ∧ (s.bus.device j).cfg.enabled = true then .polling (some i)
            else .done }) ∧
    (∀ x p rest, s.bus.activity = .passThrough x → s.bus.queue = p :: rest →
      ∃ t, exec (.sclHoldTimeout sda scl) s = .next t ∧
        t = { s with bus := { s.bus with activity := .clear (.clearAt s.bus.speed), queue := rest }
                     port := (stage (.directiveDone p.tag 18 .busTimeout 0 []) s).port })

/-! ### The wheel pulse tracker and the source selector (R91 to R117) -/

/-- WHEEL_PULSE at the counter's value, in a running part (R102, R105 to R108): a wheel without a reference
takes a first pulse, and so does a STOPPED or NOISY one whose reference is more than 400000 µs old; an
interval of 0, or below 40 % of the last period, is rejected and changes the runs alone, the eighth in
succession entering NOISY; another is accepted, gives the speed of its interval, at most 3000 cm/s, and
enters ROLLING, a NOISY wheel at the fourth in succession. The other wheels and blocks stay. That a pulse
with another timestamp than the counter's value has no effect is log entry 5. -/
def Obligations.WheelPulse : Prop :=
  ∀ (w : Wheel) (s : State), s.phase = .running →
    let old := s.wheels.get w
    let now := s.wheels.counter
    (∀ other : Stamp, other ≠ now → exec (.wheelPulse w other) s = .next s) ∧
    ∃ t, exec (.wheelPulse w now) s = .next t ∧ t = { s with wheels := t.wheels } ∧
      (∀ u : Wheel, u ≠ w → t.wheels.get u = s.wheels.get u) ∧
      t.wheels = s.wheels.put w (t.wheels.get w) ∧
      (old.reference = none → t.wheels.get w = { old with reference := some now }) ∧
      (∀ ref, old.reference = some ref →
        let d := (now - ref).toNat
        let late := 400000 < d ∧ (old.state = .stopped ∨ old.state = .noisy)
        let rejected := d = 0 ∨ ∃ p, old.lastPeriod = some p ∧ d * 100 < 40 * p
        let measured : WheelRecord :=
          { old with lastPeriod := if d ≤ 400000 then some d else old.lastPeriod
                     speed := min 3000 (rdivNat (old.arc * 100) d)
                     reference := some now, rejectRun := 0 }
        (late → t.wheels.get w = { old with reference := some now }) ∧
        (¬ late → rejected → t.wheels.get w =
          { old with rejectRun := bump 8 old.rejectRun, acceptRun := 0
                     state := if 7 ≤ old.rejectRun then .noisy else old.state }) ∧
        (¬ late → ¬ rejected → old.state ≠ .noisy → t.wheels.get w =
          { measured with acceptRun := 0, state := .rolling }) ∧
        (¬ late → ¬ rejected → old.state = .noisy → old.acceptRun < 3 → t.wheels.get w =
          { measured with acceptRun := old.acceptRun + 1 }) ∧
        (¬ late → ¬ rejected → old.state = .noisy → 3 ≤ old.acceptRun → t.wheels.get w =
          { measured with acceptRun := 0, state := .rolling }))

/-- The tracker's stage of a computation (R109 to R115). Each wheel is evaluated at the counter's value: a
ROLLING one beyond twice its last period decays, a DECAYING one goes on decaying, one beyond 400000 µs stops
by its state, another stays; what results is shown until the next computation (R117). NOISY wheels, and of
three ROLLING ones those beyond the bound about the median, are not valid; the fused speed is the median of
three valid wheels, the lesser of two, the one, or the held speed, whose count then rises to 10. With fewer
than two valid WHEEL_DEGRADED is raised for the lowest invalid wheel, else ended; with none for the tenth
time SPEED_LOST is raised, with one it is ended. -/
def Obligations.WheelEvaluationAndFusion : Prop :=
  (∀ x y z : Nat, (median x y z = x ∨ median x y z = y ∨ median x y z = z) ∧
    min x y ≤ median x y z ∧ median x y z ≤ max x y ∧ min x z ≤ median x y z ∧
    median x y z ≤ max x z ∧ min y z ≤ median x y z ∧ median x y z ≤ max y z) ∧
  ∀ (s : State) (n : Nat), s.law.timer = some n → s.law.computing = none →
    ∃ t, exec (.controlCycleExpiry s.wheels.counter) s = .next t ∧
    (∀ u : Wheel,
      let old := s.wheels.get u
      let new := t.wheels.get u
      let keeps (r : WheelRecord) : Prop :=
        new = { r with shown := { state := new.state, speed := new.speed } }
      (old.reference = none → keeps old) ∧
      ∀ ref, old.reference = some ref →
        let e := (s.wheels.counter - ref).toNat
        let decayed := min old.speed (rdivNat (old.arc * 100) e)
        let overdue := ∃ p, old.lastPeriod = some p ∧ 2 * p < e
        (400000 < e → old.state = .rolling ∨ old.state = .decaying →
          keeps { old with state := .stopped, speed := 0, reference := none, lastPeriod := none,
                           rejectRun := 0, acceptRun := 0 }) ∧
        (400000 < e → old.state = .stopped → keeps { old with reference := none }) ∧
        (400000 < e → old.state = .noisy →
          keeps { old with speed := 0, reference := none, lastPeriod := none, acceptRun := 0 }) ∧
        (e ≤ 400000 → old.state = .rolling → overdue →
          keeps { old with state := .decaying, speed := decayed }) ∧
        (e ≤ 400000 → old.state = .rolling → ¬ overdue → keeps old) ∧
        (0 < e → e ≤ 400000 → old.state = .decaying → keeps { old with speed := decayed }) ∧
        (e ≤ 400000 → old.state = .stopped ∨ old.state = .noisy → keeps old)) ∧
    let a := t.wheels.frontLeft
    let b := t.wheels.frontRight
    let c := t.wheels.rear
    let m := median a.speed b.speed c.speed
    let valid (w : WheelRecord) : Bool :=
      w.state != .noisy && (decide (a.state ≠ .rolling ∨ b.state ≠ .rolling ∨ c.state ≠ .rolling) ||
        decide (((w.speed : Int) - m).natAbs ≤ rdivNat (m * 30) 100 + 50))
    let count := (if valid a then 1 else 0) + (if valid b then 1 else 0) + (if valid c then 1 else 0)
    let ended (r : FaultRecord) : FaultRecord :=
      if r.state = .active then { r with state := .latched } else r
    (valid a → valid b → valid c → t.wheels.heldSpeed = m) ∧
    (valid a → valid b → ¬ valid c → t.wheels.heldSpeed = min a.speed b.speed) ∧
    (valid a → ¬ valid b → valid c → t.wheels.heldSpeed = min a.speed c.speed) ∧
    (¬ valid a → valid b → valid c → t.wheels.heldSpeed = min b.speed c.speed) ∧
    (valid a → ¬ valid b → ¬ valid c → t.wheels.heldSpeed = a.speed) ∧
    (¬ valid a → valid b → ¬ valid c → t.wheels.heldSpeed = b.speed) ∧
    (¬ valid a → ¬ valid b → valid c → t.wheels.heldSpeed = c.speed) ∧
    (0 < count → t.wheels.holdCount = 0 ∧ t.wheels.lostRaised = false ∧
      t.faults.get .speedLost = if s.wheels.lostRaised then ended (s.faults.get .speedLost)
        else s.faults.get .speedLost) ∧
    (count = 0 → t.wheels.heldSpeed = s.wheels.heldSpeed ∧
      t.wheels.holdCount = bump 10 s.wheels.holdCount ∧
      t.wheels.lostRaised = (s.wheels.lostRaised || decide (9 ≤ s.wheels.holdCount)) ∧
      (s.wheels.lostRaised = false → 9 ≤ s.wheels.holdCount →
        (t.faults.get .speedLost).state = .active ∧
        (t.faults.get .speedLost).count = bump 255 (s.faults.get .speedLost).count) ∧
      (s.wheels.lostRaised = true ∨ s.wheels.holdCount < 9 →
        t.faults.get .speedLost = s.faults.get .speedLost)) ∧
    t.wheels.degradedRaised = decide (count < 2) ∧
    (count < 2 → s.wheels.degradedRaised = false →
      (t.faults.get .wheelDegraded).state = .active ∧
      (t.faults.get .wheelDegraded).count = bump 255 (s.faults.get .wheelDegraded).count ∧
      (t.faults.get .wheelDegraded).lastInstance = if !valid a then 0 else if !valid b then 1 else 2) ∧
    (2 ≤ count → s.wheels.degradedRaised = true →
      t.faults.get .wheelDegraded = ended (s.faults.get .wheelDegraded)) ∧
    (s.wheels.degradedRaised = decide (count < 2) →
      t.faults.get .wheelDegraded = s.faults.get .wheelDegraded)

/-- SET_WHEEL: a wheel code above 2 is refused BAD_LENGTH, and outside OFF it is refused MODE; in OFF the
wheel takes its two values, clamped, with the tooth arc they give, and stands STOPPED with speed 0, without a
reference or a last period and with its runs 0; the answer counts the clamped values; the other wheels, the
held speed and the conditions stay (R103, R116). What the most recent computation left stays shown (R117). -/
def Obligations.SetWheel : Prop :=
  ∀ (tag : Byte) (body : List Byte) (s : State),
    let r := deliver .setWheel tag body s
    let teeth := max 16 (min 120 (byteAt body 1))
    let circumference := max 800 (min 2500 (unsignedAt body 2))
    let clamped := (if teeth = byteAt body 1 then 0 else 1) +
      (if circumference = unsignedAt body 2 then 0 else 1)
    (2 < byteAt body 0 → r = (s, some (.plain .badLength 0))) ∧
    ∀ w : Wheel, byteAt body 0 = w.code →
      (s.seq.mode ≠ .off → r = (s, some (.plain .mode s.seq.mode.code))) ∧
      (s.seq.mode = .off →
        r.2 = some (if clamped = 0 then .plain .accepted 0 else .plain .acceptedClamped clamped) ∧
        r.1 = { s with wheels := r.1.wheels } ∧
        r.1.wheels.get w =
          { teeth := teeth, circumference := circumference
            arc := rdivNat (circumference * 1000) teeth, state := .stopped, reference := none
            lastPeriod := none, rejectRun := 0, acceptRun := 0, speed := 0
            shown := (s.wheels.get w).shown } ∧
        r.1.wheels = s.wheels.put w (r.1.wheels.get w) ∧
        ∀ u : Wheel, u ≠ w → r.1.wheels.get u = s.wheels.get u)

/-- SET_SOURCES: outside OFF it is refused MODE; in OFF each quantity takes its primary and fallback, a code
that Table 5-1 does not allow for it becoming NONE, and stands PRIMARY with the new primary in use and both
counts 0, its held value and condition kept; the two potentiometer scalings are taken, a centre above 4095
becoming 4095; SOURCE_CHANGED is staged in quantity order where the source in use changed; the answer counts
the clamped values (R91, R99, R100); a source byte of 0 to 8 names the source of that code (Table 5-1). What
the most recent resolution left stays shown (R94, R101). -/
def Obligations.SetSources : Prop :=
  ∀ (tag : Byte) (body : List Byte) (s : State),
    let r := deliver .setSources tag body s
    let barred (q : Quantity) (c : Nat) : Bool :=
      decide (8 < c) || (c == 6 && q != .lean && q != .steer) || (c == 7 && q != .rate)
    let source (q : Quantity) (i : Nat) : Source :=
      let c := byteAt body (2 * q.code + i)
      if barred q c then .absent else Source.ofCode c
    let entry (q : Quantity) : QuantityRecord :=
      { s.sel.get q with primary := source q 0, fallback := source q 1, state := .primary
                         inUse := source q 0, holdCount := 0, returnCount := 0 }
    let quantities : List Quantity := [.lean, .rate, .steer, .torque]
    let clamped := (quantities.map fun q =>
        (if barred q (byteAt body (2 * q.code)) then 1 else 0) +
        (if barred q (byteAt body (2 * q.code + 1)) then 1 else 0)).sum +
      (if 4095 < unsignedAt body 8 then 1 else 0) + (if 4095 < unsignedAt body 12 then 1 else 0)
    (∀ c : Nat, c < 9 → (Source.ofCode c).code = c) ∧
    (s.seq.mode ≠ .off → r = (s, some (.plain .mode s.seq.mode.code))) ∧
    (s.seq.mode = .off → r =
      ({ s with
          sel := { lean := entry .lean, rate := entry .rate, steer := entry .steer, torque := entry .torque
                   leanPot := { centre := min 4095 (unsignedAt body 8), gain := signedAt body 10 }
                   steerPot := { centre := min 4095 (unsignedAt body 12), gain := signedAt body 14 }
                   prevPhi := s.sel.prevPhi }
          port := (quantities.foldl (fun u q =>
            if (s.sel.get q).inUse = source q 0 then u
            else stage (.sourceChanged q (s.sel.get q).inUse (source q 0)) u) s).port },
        some (if clamped = 0 then .plain .accepted 0 else .plain .acceptedClamped clamped)))

/-- The resolution of a quantity, every cell of Table 5-6 with the record it leaves: the state, the source in
use, both counts, and the held value, which takes the served value in PRIMARY and FALLBACK and stays in HELD
and LOST; the value served by Table 5-4; the condition called for, which is kept as the one raised, none in
OFF (R94 to R98). A source in use that names the primary in PRIMARY, the fallback in FALLBACK and NONE in
HELD and LOST goes on doing so, and a hold count that is 10 in LOST stays so (Table 5-3, R96); what is left
is what is shown until the next resolution (R94, R101). The other quantities, the bus and the converter
stay. -/
def Obligations.SourceResolution : Prop :=
  ∀ (taken : Mode) (q : Quantity) (phi : Int) (s : State),
    let old := s.sel.get q
    let p := s.sourceFresh q old.primary
    let f := s.sourceFresh q old.fallback
    let r := resolve taken q phi s
    let new := r.1.sel.get q
    let called (st : QuantityState) : Raised :=
      if taken ≠ .off ∧ st = .lost then .lost
      else if taken ≠ .off ∧ st = .fallback ∧ q ≠ .torque then .fallback
      else .nothing
    let leaves (st : QuantityState) (use : Source) (holds returns : Nat) : Prop :=
      new = { old with state := st, inUse := use, holdCount := holds, returnCount := returns
                       held := if st = .primary ∨ st = .fallback then r.2 else old.held
                       raised := called st, shown := { state := st, inUse := use } }
    let named (st : QuantityState) : Source :=
      if st = .primary then old.primary else if st = .fallback then old.fallback else .absent
    (old.state = .primary →
      (p = true → leaves .primary old.inUse 0 old.returnCount) ∧
      (p = false → f = true → leaves .fallback old.fallback 0 0) ∧
      (p = false → f = false → leaves .held .absent 1 0)) ∧
    (old.state = .fallback →
      (p = true → f = true → old.returnCount < 24 →
        leaves .fallback old.inUse old.holdCount (old.returnCount + 1)) ∧
      (p = true → f = true → 24 ≤ old.returnCount → leaves .primary old.primary 0 0) ∧
      (p = true → f = false → leaves .primary old.primary 0 0) ∧
      (p = false → f = true → leaves .fallback old.inUse old.holdCount 0) ∧
      (p = false → f = false → leaves .held .absent 1 0)) ∧
    (old.state = .held →
      (p = true → leaves .primary old.primary 0 0) ∧
      (p = false → f = true → leaves .fallback old.fallback 0 0) ∧
      (p = false → f = false → old.holdCount < 9 →
        leaves .held old.inUse (old.holdCount + 1) old.returnCount) ∧
      (p = false → f = false → 9 ≤ old.holdCount → leaves .lost old.inUse 10 old.returnCount)) ∧
    (old.state = .lost →
      (p = true → leaves .primary old.primary 0 0) ∧
      (p = false → f = true → leaves .fallback old.fallback 0 0) ∧
      (p = false → f = false → leaves .lost old.inUse old.holdCount old.returnCount)) ∧
    (new.state = .primary → r.2 = s.sourceValue q phi old.primary) ∧
    (new.state = .fallback → r.2 = s.sourceValue q phi old.fallback) ∧
    (new.state = .held → r.2 = old.held) ∧
    (new.state = .lost → r.2 = if q = .steer ∨ q = .torque then 0 else old.held) ∧
    (old.inUse = named old.state → new.inUse = named new.state) ∧
    ((old.state = .lost → old.holdCount = 10) → new.state = .lost → new.holdCount = 10) ∧
    (∀ q' : Quantity, q' ≠ q → r.1.sel.get q' = s.sel.get q') ∧ r.1.bus = s.bus ∧ r.1.conv = s.conv

/-- What a resolution tells the rest of the part: SOURCE_CHANGED exactly where the source in use has changed
(R99), then, where the condition called for differs from the one raised, the end of the old one and after it
the raise of the new one, with instance 0, by the quantity's own kinds (R98); nothing else of the state but
the quantity's record moves. A computation resolves LEAN, RATE, STEER and TORQUE in this order, and the
previous lean angle takes the served one after RATE (R92, R94). -/
def Obligations.SourceReports : Prop :=
  (∀ (taken : Mode) (q : Quantity) (phi : Int) (s : State),
    let old := s.sel.get q
    let r := resolve taken q phi s
    let new := r.1.sel.get q
    let kind (c : Raised) : Option FaultKind :=
      match c, q with
      | .nothing, _ => none
      | .fallback, .lean => some .leanFallback
      | .fallback, .rate => some .rateFallback
      | .fallback, .steer => some .steerFallback
      | .fallback, .torque => none
      | .lost, .lean => some .leanLost
      | .lost, .rate => some .rateLost
      | .lost, .steer => some .steerLost
      | .lost, .torque => some .torqueLost
    let ending (u : State) : State :=
      match kind old.raised with
      | some k => endFault k u
      | none => u
    let raising (u : State) : State :=
      match kind new.raised with
      | some k => raise k 0 u
      | none => u
    let told : State := if new.inUse = old.inUse then s else stage (.sourceChanged q old.inUse new.inUse) s
    let kept : State := { told with sel := s.sel.put q new }
    r.1 = if new.raised = old.raised then kept else raising (ending kept)) ∧
  ∀ (taken : Mode) (s : State),
    let lean := resolve taken .lean s.sel.lean.held s
    let phi := lean.2
    let rate := resolve taken .rate phi lean.1
    let steer := resolve taken .steer phi { rate.1 with sel := { rate.1.sel with prevPhi := phi } }
    let torque := resolve taken .torque phi steer.1
    selectorStage taken s = (torque.1, { phi := phi, phiDot := rate.2, delta := steer.2, tauR := torque.2 })

/-- The value and the freshness of each source (R92, R93, Table 5-2): a device entry's last value saturated
to the range of the quantity resolved, fresh while the entry is joined; a potentiometer's raw count less its
centre, scaled by its gain in 1/256, rounded and saturated, fresh from 100 to 3995; DERIVED 500 times the
difference of the two served lean angles within ±30000, fresh while LEAN is PRIMARY or FALLBACK; NONE, and a
potentiometer for RATE and TORQUE, never fresh. -/
def Obligations.SourceValues : Prop :=
  ∀ (s : State) (q : Quantity) (phi : Int),
    let limit : Quantity → Int := fun q => match q with
      | .lean => 4500
      | .rate => 30000
      | .steer => 4000
      | .torque => 2500
    let within (m x : Int) : Int := max (-m) (min m x)
    let scaled (pot : PotScale) (raw : Int) : Int := rdiv ((raw - pot.centre) * pot.gain) 256
    (∀ i : Fin 6, s.sourceFresh q (.device i) = (s.bus.device i).run.joined ∧
      s.sourceValue q phi (.device i) = within (limit q) (s.bus.device i).run.last) ∧
    (s.sourceFresh .lean .pot = true ↔ 100 ≤ s.conv.leanPot ∧ s.conv.leanPot ≤ 3995) ∧
    s.sourceValue .lean phi .pot = within 4500 (scaled s.sel.leanPot s.conv.leanPot) ∧
    (s.sourceFresh .steer .pot = true ↔ 100 ≤ s.conv.steerPot ∧ s.conv.steerPot ≤ 3995) ∧
    s.sourceValue .steer phi .pot = within 4000 (scaled s.sel.steerPot s.conv.steerPot) ∧
    s.sourceFresh .rate .pot = false ∧ s.sourceFresh .torque .pot = false ∧
    (s.sourceFresh q .derived = true ↔ s.sel.lean.state = .primary ∨ s.sel.lean.state = .fallback) ∧
    s.sourceValue q phi .derived = within 30000 ((phi - s.sel.prevPhi) * 500) ∧
    s.sourceFresh q .absent = false

/-! ### The conversion unit and the drive block (R118 to R144) -/

/-- NORMAL_CONVERSION_COMPLETE replaces the result of the channel at the chain's position and moves the
position on; a potentiometer reads 0 while the logic supply is outside 3000..3600 mV; an AN0 sample is handed
to the runs of SUPPLY_LOW and SUPPLY_HIGH, an AN1 and an AN2 sample to the hot run of its bridge; the other
results, the bus, the tables and the law stay (R118, R119, R123, R124). That SUPPLY_LOW's run is updated
first is log entry 20. -/
def Obligations.NormalConversionComplete : Prop :=
  ∀ (raw : BitVec 12) (s : State) (n : Nat), s.conv.normal = some n →
    let c := s.conv
    let mv : Int := (raw.toNat : Int) * 16
    let temp : Int := (raw.toNat : Int) - 745
    let pot : Int := if 3000 ≤ c.logic ∧ c.logic ≤ 3600 then (raw.toNat : Int) else 0
    let stored (d : Converter) (next : NormalChannel) : State :=
      { s with conv := { d with position := next, normal := some 10 } }
    ∃ t, exec (.normalConversionComplete raw) s = .next t ∧
      (c.position = .an0 → t = sampleHigh mv (sampleLow mv (stored { c with supply := mv } .an1))) ∧
      (c.position = .an1 → t = sampleHot .tilt temp (stored { c with tiltTemp := temp } .an2)) ∧
      (c.position = .an2 → t = sampleHot .steer temp (stored { c with steerTemp := temp } .an3)) ∧
      (c.position = .an3 → t = stored { c with leanPot := pot } .an4) ∧
      (c.position = .an4 → t = stored { c with steerPot := pot } .an5) ∧
      (c.position = .an5 → t = stored { c with logic := mv } .an0) ∧
      t.conv.position = c.position.next ∧ t.conv.normal = some 10 ∧
      t.conv.supply = (if c.position = .an0 then mv else c.supply) ∧
      t.conv.tiltTemp = (if c.position = .an1 then temp else c.tiltTemp) ∧
      t.conv.steerTemp = (if c.position = .an2 then temp else c.steerTemp) ∧
      t.conv.leanPot = (if c.position = .an3 then pot else c.leanPot) ∧
      t.conv.steerPot = (if c.position = .an4 then pot else c.steerPot) ∧
      t.conv.logic = (if c.position = .an5 then mv else c.logic) ∧
      t.conv.tiltCurrent = c.tiltCurrent ∧ t.conv.steerCurrent = c.steerCurrent ∧
      t.conv.centre = c.centre ∧ t.conv.injected = c.injected ∧
      t.law = s.law ∧ t.tables = s.tables ∧ t.bus = s.bus ∧ t.sel = s.sel ∧ t.wheels = s.wheels ∧
      t.port.mem = s.port.mem

/-- The three sample runs. A sample beyond its limit counts toward the condition while it is not raised, one
back by the margin toward its end while it is, the tenth in succession crosses, and every other sample breaks
the run: SUPPLY_LOW below the supply low limit, back at the limit plus 1000 mV (R125); SUPPLY_HIGH above the
supply high limit, back at the limit minus 1000 mV (R126); a bridge hot above the hot limit, cool below the
limit minus 100 (R127). A crossing raises or ends the kind; BRIDGE_HOT is raised for the first bridge that is
hot and ended by the last that is not. Their floors are REPORT and their default reactions DEGRADE. -/
def Obligations.ThresholdRuns : Prop :=
  ∀ (x : Int) (s : State),
    let u := s.tuning
    let counted (r r' : ThresholdRun) (beyond back : Prop) : Prop :=
      (r.raised = false → beyond → r.run < 9 → r' = { raised := false, run := r.run + 1 }) ∧
      (r.raised = false → beyond → 9 ≤ r.run → r' = { raised := true, run := 0 }) ∧
      (r.raised = false → ¬ beyond → r' = { raised := false, run := 0 }) ∧
      (r.raised = true → back → r.run < 9 → r' = { raised := true, run := r.run + 1 }) ∧
      (r.raised = true → back → 9 ≤ r.run → r' = { raised := false, run := 0 }) ∧
      (r.raised = true → ¬ back → r' = { raised := true, run := 0 })
    let told (k : FaultKind) (n : Nat) (r r' : ThresholdRun) (v : State) : State :=
      if r.raised = false ∧ r'.raised = true then raise k n v
      else if r.raised = true ∧ r'.raised = false then endFault k v
      else v
    (∃ r', counted s.conv.low r' (x < u.supplyLow) ((u.supplyLow : Int) + 1000 ≤ x) ∧
      sampleLow x s = told .supplyLow 0 s.conv.low r' { s with conv := { s.conv with low := r' } }) ∧
    (∃ r', counted s.conv.high r' ((u.supplyHigh : Int) < x) (x ≤ (u.supplyHigh : Int) - 1000) ∧
      sampleHigh x s = told .supplyHigh 0 s.conv.high r' { s with conv := { s.conv with high := r' } }) ∧
    (∀ b : Bridge, ∃ r', counted (s.conv.hot b) r' ((u.hotLimit : Int) < x) (x < (u.hotLimit : Int) - 100) ∧
      let v : State := { s with conv := s.conv.setHot b r' }
      sampleHot b x s =
        if (s.conv.hot b.other).raised then v else told .bridgeHot b.code (s.conv.hot b) r' v) ∧
    ∀ k : FaultKind, k = .supplyLow ∨ k = .supplyHigh ∨ k = .bridgeHot →
      k.floor = .report ∧ ((FaultMonitor.cleared s.faults.retained).get k).policyReaction = .degrade

/-- INJECTED_TRIGGER takes the converter: the conversion in progress is discarded, the position and every
result stay. PWM_PERIOD_START loads the applied duty of each channel that is ON, and of no other, and
drives HOLD's level from there on (R120, R121, R132, R142). SOLENOID_PULL_IN_EXPIRY takes PULL-IN to HOLD,
with LKS high until the next period starts; a command from off to on starts a full pull-in, from on to off
drops LKS at once, and no change does nothing (R142). The levels at a time in ns from a period's start: a
channel's enable is high while it is ON, and its lines are low while it is not; ON, the A line is high for
d × 50 ns about the period centre with applied duty d above 0, the B line for |d| × 50 ns with d below 0, and
the other line, or both with d 0, low (Table 8-2, R132). LKS is low in OFF, high in PULL-IN, and in HOLD high
for 20 µs about the period centre once a period has started (R142). -/
def Obligations.TriggerPeriodAndSolenoid : Prop :=
  (∀ (c : Channel) (ns : Int),
    let inside : Prop := (ns - 25000).natAbs < 25 * c.applied.natAbs
    let outside : Prop := 25 * c.applied.natAbs < (ns - 25000).natAbs
    (c.enableHigh = true ↔ c.state = .on) ∧
    (c.state ≠ .on → c.lineA ns = false ∧ c.lineB ns = false) ∧
    (c.state = .on →
      (0 < c.applied → c.lineB ns = false ∧
        (inside → c.lineA ns = true) ∧ (outside → c.lineA ns = false)) ∧
      (c.applied < 0 → c.lineA ns = false ∧
        (inside → c.lineB ns = true) ∧ (outside → c.lineB ns = false)) ∧
      (c.applied = 0 → c.lineA ns = false ∧ c.lineB ns = false))) ∧
  (∀ (d : Drive) (ns : Int),
    (d.stage = .off → d.lks ns = false) ∧ (d.stage = .pullIn → d.lks ns = true) ∧
    (d.stage = .hold → d.holdDriven = false → d.lks ns = true) ∧
    (d.stage = .hold → d.holdDriven = true →
      ((ns - 25000).natAbs < 10000 → d.lks ns = true) ∧
      (10000 < (ns - 25000).natAbs → d.lks ns = false))) ∧
  ∀ (s : State) (n : Nat),
    (s.conv.centre = some n → exec .injectedTrigger s =
      .next { s with conv := { s.conv with centre := some 50, normal := none, injected := some 16 } }) ∧
    (s.drive.period = some n → ∃ t, exec .pwmPeriodStart s = .next t ∧
      t = { s with drive := { s.drive with
              tilt := { s.drive.tilt with applied := t.drive.tilt.applied }
              steer := { s.drive.steer with applied := t.drive.steer.applied }
              period := some 50
              holdDriven := t.drive.holdDriven } } ∧
      (s.drive.tilt.state = .on → t.drive.tilt.applied = s.drive.tilt.duty) ∧
      (s.drive.tilt.state ≠ .on → t.drive.tilt.applied = s.drive.tilt.applied) ∧
      (s.drive.steer.state = .on → t.drive.steer.applied = s.drive.steer.duty) ∧
      (s.drive.steer.state ≠ .on → t.drive.steer.applied = s.drive.steer.applied) ∧
      (s.drive.stage = .hold → t.drive.holdDriven = true)) ∧
    (s.drive.stage = .pullIn → s.drive.pullIn = some n → ∃ t, exec .solenoidPullInExpiry s = .next t ∧
      t = { s with drive := { s.drive with stage := .hold, pullIn := none, holdDriven := false } } ∧
      ∀ ns : Int, t.drive.lks ns = true) ∧
    (s.seq.solenoid = false → (setSolenoid true s).drive =
      { s.drive with stage := .pullIn, pullIn := some 60000, holdDriven := false }) ∧
    (s.seq.solenoid = true → (setSolenoid false s).drive.stage = .off ∧
      (setSolenoid false s).drive.pullIn = none ∧ ∀ ns : Int, (setSolenoid false s).drive.lks ns = false) ∧
    setSolenoid s.seq.solenoid s = s

/-- INJECTED_COMPLETE replaces both currents together and resumes the normal chain; a channel that is not
ON keeps its record, and an ON channel that does not trip runs one loop step, its over-current run 0 at or
below the trip current and one more above it (R122, R123, R137, R138, R140). In either order of the two
channels (log entry 18). The loop step: the integrator stays where the test duty lies beyond ±950 on the side
of the error, and else gathers ki times the error within ±3891200; the duty is the output for the new
integrator, within ±950; nothing else of the record changes (R137, R138). -/
def Obligations.InjectedComplete : Prop :=
  (∀ (rawTilt rawSteer : BitVec 12) (first : Bridge) (s : State) (n : Nat),
    s.conv.injected = some n →
    let iTilt : Int := ((rawTilt.toNat : Int) - 2048) * 15
    let iSteer : Int := ((rawSteer.toNat : Int) - 2048) * 15
    let u := s.tuning
    let quiet (c : Channel) (i : Int) : Prop := c.state ≠ .on ∨ i.natAbs ≤ u.tripCurrent ∨ c.overRun < 2
    let after (c : Channel) (i : Int) : Channel :=
      if c.state = .on then
        ({ c with overRun := if u.tripCurrent < i.natAbs then c.overRun + 1 else 0 } : Channel).loopStep u i
      else c
    ∃ t, exec (.injectedComplete rawTilt rawSteer first) s = .next t ∧
      t.conv = { s.conv with tiltCurrent := iTilt, steerCurrent := iSteer, injected := none,
                             normal := some 10 } ∧
      (quiet s.drive.tilt iTilt → quiet s.drive.steer iSteer →
        t = { s with conv := t.conv
                     drive := { s.drive with tilt := after s.drive.tilt iTilt
                                             steer := after s.drive.steer iSteer } }) ∧
      t.law = s.law ∧ t.tables = s.tables ∧ t.bus = s.bus ∧ t.sel = s.sel ∧ t.wheels = s.wheels ∧
      t.port.mem = s.port.mem) ∧
  ∀ (c : Channel) (u : Tuning) (i : Int),
    let e := c.setpoint - i
    let test := rdiv (u.kpi * e + c.integrator) 4096
    let held := (0 < e ∧ 950 < test) ∨ (e < 0 ∧ test < -950)
    let d := c.loopStep u i
    (held → d.integrator = c.integrator) ∧
    (¬ held → d.integrator = clampSym 3891200 (c.integrator + u.ki * e)) ∧
    d.duty = clampSym 950 (rdiv (u.kpi * e + d.integrator) 4096) ∧
    d.duty.natAbs ≤ 950 ∧ (c.integrator.natAbs ≤ 3891200 → d.integrator.natAbs ≤ 3891200) ∧
    d = { c with integrator := d.integrator, duty := d.duty }

/-- The third over-current sample in succession, at an INJECTED_COMPLETE, trips the channel in that event:
TRIPPED, duty and applied duty 0, run 0, the integrator kept, and its kind LATCHED; a channel that does not
trip runs its loop step (R140, R141). A tilt trip brings SAFE: a steer channel that has not tripped before
is then OFF and raises nothing (R135; the order of the channels is log entry 18). -/
def Obligations.OverCurrentTrip : Prop :=
  ∀ (rawTilt rawSteer : BitVec 12) (first : Bridge) (s : State) (n : Nat),
    s.conv.injected = some n → FaultsSafe s.faults →
    let u := s.tuning
    let i : Bridge → Int := fun b => match b with
      | .tilt => ((rawTilt.toNat : Int) - 2048) * 15
      | .steer => ((rawSteer.toNat : Int) - 2048) * 15
    let exceeds (b : Bridge) : Prop := u.tripCurrent < (i b).natAbs
    let trips (b : Bridge) : Prop :=
      (s.drive.channel b).state = .on ∧ exceeds b ∧ 2 ≤ (s.drive.channel b).overRun
    let stepped (b : Bridge) : Channel :=
      let c := s.drive.channel b
      ({ c with overRun := if u.tripCurrent < (i b).natAbs then c.overRun + 1 else 0 } : Channel).loopStep u (i b)
    let free := s.seq.mode = .off ∨ s.seq.mode = .safe
    ∃ t, exec (.injectedComplete rawTilt rawSteer first) s = .next t ∧
      let tripped (b : Bridge) : Prop :=
        t.drive.channel b =
          { s.drive.channel b with state := .tripped, wanted := (t.drive.channel b).wanted, duty := 0
                                   applied := 0, overRun := 0 } ∧
        (t.faults.get b.overcurrent).state = .latched ∧
        (t.faults.get b.overcurrent).count = bump 255 (s.faults.get b.overcurrent).count
      (trips .tilt → tripped .tilt ∧ (s.seq.mode ≠ .off → t.seq.mode = .safe)) ∧
      (trips .tilt → ¬ free → t.drive.steer.state ≠ .on ∧ t.drive.steer.duty = 0 ∨
        s.drive.steer.state ≠ .on) ∧
      (trips .steer → (trips .tilt → first = .steer ∨ free) → tripped .steer) ∧
      (trips .steer → trips .tilt → first = .tilt → ¬ free → t.drive.steer.state = .off ∧
        t.faults.get .steerOvercurrent = s.faults.get .steerOvercurrent) ∧
      (¬ trips .tilt → s.drive.tilt.state = .on →
        t.drive.tilt = { stepped .tilt with wanted := t.drive.tilt.wanted }) ∧
      (¬ trips .steer → (trips .tilt → free) → s.drive.steer.state = .on →
        t.drive.steer = stepped .steer) ∧
      (¬ trips .tilt → ¬ trips .steer → t.faults = s.faults ∧ t.seq = s.seq ∧ t.port = s.port)

/-! ### The exchange port (R163 to R195) -/

/-- POWER_ON_RESET, and PIN_RESET and SOFT_RESET in a running part, PIN_RESET in a soft reset too: every block
stands as after a reset; power-on zeroes the whole memory, the retained record and the enables; a pin reset
zeroes the counts and the frame tables and keeps the rest of the memory and the retained record; a soft reset
keeps the enables and the port mode too and lasts 10 µs; a pin reset in another one only lowers RSTN (R164,
R179, R181). Of a window that was OPEN the memory keeps what it had written so far: the work of R169 as far as
the pieces that a free value says, and of the next piece the words that another one names; a window's work,
all of its pieces done, is what WINDOW_OPEN writes (R164; log entry 40). That XCAUSE reads 0 while a reset
lasts is log entry 8, and that power-on and a soft reset leave the level of RSTN is log entry 28. -/
def Obligations.ResetsBegin : Prop :=
  ∀ (s : State) (w : Word),
    let zeroed (a : Nat) : Prop := a < 0x0010 ∨ (0x0100 ≤ a ∧ a < 0x01C0)
    let kept (u t : State) : Prop :=
      let n := Config.windowReached u.ticks
      let wrote (a : Nat) : Prop := a < 0x1600 ∧ Config.windowWrote u.ticks (a / 2) = true
      (u.port.window ≠ .opened → t.faults.retained = u.faults.retained ∧
        ∀ a : Nat, t.port.mem.read a = if zeroed a then 0 else u.port.mem.read a) ∧
      (u.port.window = .opened → t.faults.retained = (windowWork n u).faults.retained) ∧
      (u.port.window = .opened → MemorySafe u.port → ∀ a : Nat, t.port.mem.read a =
        if zeroed a then 0 else if wrote a then (windowWork (n + 1) u).port.mem.read a
        else (windowWork n u).port.mem.read a)
    let blocks (t : State) : Prop :=
      t.seq = .cleared s.seq.lke.line s.seq.lkr.line s.seq.lrq.line ∧ t.law = .cleared ∧
      t.tables = .cleared ∧ t.bus = .cleared ∧ t.sel = .cleared ∧ t.wheels = .cleared ∧
      t.conv = .cleared ∧ t.drive = .cleared ∧ t.faults.table = FaultMonitor.clearedTable ∧
      t.faults.minTimer = none ∧
      t.port = .cleared t.port.mem t.port.adData t.port.enable t.port.mode
    let mode : PortMode := if w &&& 1 = 0 then .wait else .noWait
    let written : State := { s with port := { s.port with mode := mode } }
    let waiting := (s.port.mem.readWord 0 - s.port.take).toNat
    let u := windowWork 4 s
    let released : Port := { u.port with
      event := u.port.event.release (s.port.mem.readWord 0x0006)
      trace := u.port.trace.release (s.port.mem.readWord 0x000A) }
    let events (n : Nat) : Port := (publish 1 .event)^[n] released
    (∃ t, exec .powerOnReset s = .next t ∧ blocks t ∧ t.phase = .powerOn ∧ t.rstn = s.rstn ∧
      t.port.mem = [] ∧ t.faults.retained = .zero ∧ t.port.enable = 0 ∧ t.port.mode = .wait) ∧
    (s.phase = .running ∨ (∃ n, s.phase = .soft n) → ∃ t, exec .pinReset s = .next t ∧ blocks t ∧
      t.phase = .pin ∧ t.rstn = false ∧ kept s t ∧ t.port.enable = 0 ∧ t.port.mode = .wait) ∧
    (s.phase = .powerOn ∨ s.phase = .pin → exec .pinReset s = .next { s with rstn := false }) ∧
    (s.phase = .running → s.port.inProgress = none → w &&& 2 ≠ 0 →
      ∃ t, exec (.softReset w) s = .next t ∧ blocks t ∧ t.phase = .soft 10 ∧ t.rstn = s.rstn ∧
        kept written t ∧ t.port.enable = s.port.enable ∧ t.port.mode = mode) ∧
    (∀ n : Nat, n ≤ 4 → waiting ≤ 16 → windowWork n s = takeFrame^[min n waiting] s) ∧
    (16 < waiting → windowWork 0 s = s ∧ ∀ n : Nat, 1 ≤ n → n ≤ 4 → windowWork n s = u) ∧
    (∀ n : Nat, 1 ≤ n → n ≤ 4 → windowWork (4 + n) s = { u with port := events n } ∧
      windowWork (8 + n) s = { u with port := (publish 1 .trace)^[n] (events 4) }) ∧
    (∀ n : Nat, 13 ≤ n → windowWork n s = writeOwned (windowWork 12 s)) ∧
    (s.port.window = .opened → s.port.held = [] → ∃ t, exec .windowOpen s = .next t ∧
      t.port.mem = (windowWork 13 s).port.mem ∧ t.faults = (windowWork 13 s).faults) ∧
    (∀ n a : Nat, n ≤ 4 ∨ 0x1600 ≤ a ∨ (0x0200 ≤ a ∧ a < 0x0A00) →
      (windowWork n s).port.mem.read a = s.port.mem.read a)

/-- RESET_END: every timer of the part restarts, XCAUSE holds RESET_DONE alone, the bus master makes its
one clear, a line that is closed starts its 5 ms, and the memory, the retained record, the enables and the
port mode are as the reset has left them (R5, R27, R74, R89, R119, R120, R162, R164, R165, R181); in a running
part there is no reset to end (log entry 5). Until then every access completes at once, whole or begun: a
read returns 0xFFFF, a write is not stored and starts nothing (R164). That RSTN stands high after it is the
model's choice (log entry 28). -/
def Obligations.ResetEndsAndAccessesBefore : Prop :=
  ∀ (s : State) (addr w : Word),
    let contact (closed : Bool) : Contact :=
      { line := closed, level := false, debounce := if closed then some 5000 else none }
    let reads : State := { s with port := { s.port with adData := 0xFFFF } }
    (s.phase = .running → exec .resetEnd s = .next s) ∧
    (s.phase ≠ .running → exec .resetEnd s = .next
      { pending := s.pending
        phase := .running
        rstn := true
        ticks := s.ticks
        seq := { Sequencer.cleared false false false with
                   lke := contact s.seq.lke.line, lkr := contact s.seq.lkr.line,
                   lrq := contact s.seq.lrq.line }
        law := { Law.cleared with timer := some 2000 }
        tables := .cleared
        bus := { Bus.cleared with timer := some 2000, activity := .clear (.clearAt .mhz1) }
        sel := .cleared
        wheels := .cleared
        conv := { Converter.cleared with normal := some 10, centre := some 25 }
        drive := { Drive.cleared with period := some 50 }
        faults := .cleared s.faults.retained
        port := { Port.cleared s.port.mem s.port.adData s.port.enable s.port.mode with
                    timer := some 1000, cause := 1 } }) ∧
    (s.phase ≠ .running →
      exec .xstatHoldRead s = .next reads ∧
      exec (.hostGuardedAccess (.whole addr .read)) s = .next reads ∧
      exec (.hostGuardedAccess (.begins addr .read)) s = .next reads ∧
      exec (.hostScratchAccess addr .read) s = .next reads ∧
      exec (.hostGuardedAccess (.whole addr (.write w))) s = .next s ∧
      exec (.hostGuardedAccess (.begins addr (.write w))) s = .next s ∧
      (s.port.inProgress = none → exec (.hostGuardedAccess .completes) s = .next s) ∧
      exec (.hostScratchAccess addr (.write w)) s = .next s ∧
      exec (.registerWrite addr w) s = .next s ∧ exec (.xcauseWrite w) s = .next s ∧
      exec (.setPortMode w) s = .next s ∧ exec (.softReset w) s = .next s)

/-- The accesses outside the guarded region, in a running part with no guarded access in progress. XCAUSE
loses the causes whose bits are 1, XCAUSE_EN stores its seven bits, XCTRL with bit 1 clear sets the port mode,
a write to XSTAT, XSTAT_HOLD or an unused word has no effect; each register reads as it stands, an unused
word 0; XSTAT's bits are those of Table 11-13 (R163, R167, R179, R180, R195). A scratch access reads or
writes its two bytes and no other, whatever the window does (R163, R166, R182). That XSTAT_HOLD_READ gives
the word as it stood before the hold is armed is log entry 35, that a register is read through an access row
log entry 27. -/
def Obligations.RegisterAndScratchAccesses : Prop :=
  ∀ (s : State) (addr w : Word), s.phase = .running → s.port.inProgress = none →
    let a := addr.toNat % 8192 / 2 * 2
    let read := exec (.hostScratchAccess addr .read) s
    let gives (x : Word) : Prop := read = .next { s with port := { s.port with adData := x } }
    let held : State := { s with port := { s.port with
      adData := s.xstat
      holdArmed := s.port.holdArmed || s.port.window != .opened } }
    (∃ t, exec (.xcauseWrite w) s = .next t ∧
      t = { s with port := { s.port with cause := t.port.cause } } ∧
      ∀ i : Nat, i < 7 → t.port.cause.getLsbD i = (s.port.cause.getLsbD i && !w.getLsbD i)) ∧
    (placeOf addr = .xcauseEn → ∃ t, exec (.registerWrite addr w) s = .next t ∧
      t = { s with port := { s.port with enable := t.port.enable } } ∧
      ∀ i : Nat, i < 7 → t.port.enable.getLsbD i = w.getLsbD i) ∧
    (placeOf addr = .xstat ∨ placeOf addr = .xstatHold ∨ placeOf addr = .unused →
      exec (.registerWrite addr w) s = .next s) ∧
    (w &&& 2 = 0 → exec (.setPortMode w) s =
      .next { s with port := { s.port with mode := if w &&& 1 = 0 then .wait else .noWait } }) ∧
    exec .xstatHoldRead s = .next held ∧
    (placeOf addr = .xstatHold → read = .next held) ∧
    (placeOf addr = .xstat → gives s.xstat) ∧
    (placeOf addr = .xcause → gives (s.port.cause.setWidth 16)) ∧
    (placeOf addr = .xcauseEn → gives (s.port.enable.setWidth 16)) ∧
    (placeOf addr = .xctrl → gives (if s.port.mode = .wait then 0 else 1)) ∧
    (placeOf addr = .unused → gives 0) ∧
    s.xstat.getLsbD 0 = (s.port.window == .opened) ∧
    s.xstat.getLsbD 1 = s.port.holdArmed ∧
    (s.xstat.extractLsb' 2 3).toNat = s.seq.mode.code ∧
    (s.xstat.extractLsb' 5 2).toNat = s.seq.lockDrive.code ∧
    s.xstat.getLsbD 7 = s.faults.fltnActive ∧
    s.xstat.getLsbD 8 = (s.port.cause &&& s.port.enable != 0) ∧
    s.xstat.getLsbD 9 = s.tables.commitPending ∧
    s.xstat.toNat < 1024 ∧
    (MemorySafe s.port → inScratch addr = true → gives (s.port.mem.readWord a) ∧
      ∃ t, exec (.hostScratchAccess addr (.write w)) s = .next t ∧
        t = { s with port := { s.port with mem := t.port.mem } } ∧
        t.port.mem.read a = w.setWidth 8 ∧ t.port.mem.read (a + 1) = (w >>> 8).setWidth 8 ∧
        t.port.mem.readWord a = w ∧
        ∀ b : Nat, b ≠ a → b ≠ a + 1 → t.port.mem.read b = s.port.mem.read b)

/-- HOST_GUARDED_ACCESS as a whole access by the window: served at once while CLOSED; while DEFERRED its
completion opens the window; while OPEN it is held in WAIT mode, and in NOWAIT mode a write is dropped, a
read returns 0xFFFF and WINDOW_COLLISION is set, whether given whole or as its beginning (R163, R166, R168).
One that begins before the window is OPEN is in progress until it completes; its completion serves it, and
opens a DEFERRED window or one that waited for it (R165, R168). That the two moments are separate commands
is log entry 10, and that a completion with no access in progress has no effect log entry 5. -/
def Obligations.GuardedAccess : Prop :=
  ∀ (s : State) (addr w : Word), s.phase = .running → inGuarded addr = true →
    let a := addr.toNat % 8192 / 2 * 2
    let read := exec (.hostGuardedAccess (.whole addr .read)) s
    let write := exec (.hostGuardedAccess (.whole addr (.write w))) s
    let reading := exec (.hostGuardedAccess (.begins addr .read)) s
    let writing := exec (.hostGuardedAccess (.begins addr (.write w))) s
    let done := exec (.hostGuardedAccess .completes) s
    let afterRead : Port := { s.port with adData := s.port.mem.readWord a, inProgress := none }
    let afterWrite : Port := { s.port with mem := s.port.mem.writeWord a w, inProgress := none }
    let opens (p : Port) : Port :=
      { p with window := .opened, windowAge := 0, opensAtCompletion := false, deferral := none }
    let served (p : Port) : Port :=
      if s.port.window = .deferred ∨ (s.port.window = .closed ∧ s.port.opensAtCompletion = true) then opens p
      else p
    (s.port.inProgress = none →
      (s.port.window ≠ .opened →
        read = .next { s with port := served afterRead } ∧
        write = .next { s with port := served afterWrite } ∧
        reading = .next { s with port := { s.port with inProgress := some { addr := addr, op := .read } } } ∧
        writing = .next { s with port := { s.port with
          inProgress := some { addr := addr, op := .write w } } }) ∧
      (s.port.window = .opened → s.port.mode = .wait →
        read = .next { s with port := { s.port with
          held := s.port.held ++ [{ addr := addr, op := .read }] } } ∧
        write = .next { s with port := { s.port with
          held := s.port.held ++ [{ addr := addr, op := .write w }] } }) ∧
      (s.port.window = .opened → s.port.mode = .noWait →
        read = .next { s with port := { s.port with adData := 0xFFFF, cause := s.port.cause ||| 0x20 } } ∧
        write = .next { s with port := { s.port with cause := s.port.cause ||| 0x20 } }) ∧
      (s.port.window = .opened → reading = read ∧ writing = write) ∧
      done = .next s) ∧
    (s.port.inProgress = some { addr := addr, op := .read } →
      done = .next { s with port := served afterRead }) ∧
    (s.port.inProgress = some { addr := addr, op := .write w } →
      done = .next { s with port := served afterWrite })

/-- EXCHANGE_TIMER_EXPIRY with the window CLOSED: an armed hold is spent on a deferral of 100 µs, a guarded
access in progress delays the opening, and otherwise the window opens; the timer runs on. At
DEFERRAL_LIMIT_EXPIRY HOLD_EXPIRED is set and the window opens, or waits for the access in progress (R165,
R168). RELEASE_HOLD_OFF_EXPIRY and FLTN_MIN_TIMER_EXPIRY stop their timers and change nothing else; FLTN is
active after the latter exactly while some kind that is not CLEAR has effective reaction DEGRADE or SAFE
(R8, R156). That a stopped timer's expiry has no effect is the model's reading (log entry 5). -/
def Obligations.TimerExpiries : Prop :=
  (∀ (s : State) (n : Nat),
    let p := s.port
    (p.timer = some n → p.window = .closed → p.holdArmed = true →
      exec .exchangeTimerExpiry s = .next { s with port := { p with
        timer := some 2000, holdArmed := false, window := .deferred, deferral := some 100 } }) ∧
    (p.timer = some n → p.window = .closed → p.holdArmed = false → p.inProgress ≠ none →
      exec .exchangeTimerExpiry s = .next { s with port := { p with
        timer := some 2000, opensAtCompletion := true } }) ∧
    (p.timer = some n → p.window = .closed → p.holdArmed = false → p.inProgress = none →
      exec .exchangeTimerExpiry s = .next { s with port := { p with
        timer := some 2000, window := .opened, windowAge := 0, opensAtCompletion := false,
        deferral := none } }) ∧
    (p.deferral = some n → p.inProgress = none →
      exec .deferralLimitExpiry s = .next { s with port := { p with
        cause := p.cause ||| 0x40, window := .opened, windowAge := 0, opensAtCompletion := false,
        deferral := none } }) ∧
    (p.deferral = some n → p.inProgress ≠ none →
      exec .deferralLimitExpiry s = .next { s with port := { p with
        cause := p.cause ||| 0x40, deferral := none } })) ∧
  ∀ s : State,
    exec .releaseHoldOffExpiry s = .next { s with seq := { s.seq with holdOff := none } } ∧
    ∃ t, exec .fltnMinTimerExpiry s = .next t ∧
      t = { s with faults := { s.faults with minTimer := none } } ∧
      (t.faults.fltnActive = true ↔
        ∃ k : FaultKind, (t.faults.get k).state ≠ .clear ∧
          ((t.faults.get k).effective = .degrade ∨ (t.faults.get k).effective = .safe))

/-- WINDOW_OPEN on an OPEN window closes it: up to four of the waiting frames are taken, one after another,
or on an overrun of more than 16 none, the take count moving to the close count and DIRECTIVE_OVERRUN raised;
the blocks but the port are then as the frames taken left them; the rings take the host's releases and
publish; the snapshot number rises by 1; the part's words are written, and the accesses held are then served
in their order (log entry 10); DIRECTIVES_TAKEN is set exactly when a frame was taken, so not on an overrun,
and EVENT_PUBLISHED and TRACE_PUBLISHED exactly when that ring published; the scratch and the directive area
are untouched when none was held (R163, R166, R169, R170, R171, R173, R175, R178, R183). That all six steps
act in one command is log entry 11. -/
def Obligations.WindowRuns : Prop :=
  ∀ s : State, s.port.window = .opened →
    let close := s.port.mem.readWord 0
    let waiting := (close - s.port.take).toNat
    let last := 0x0100 + 4 * ((close - 1).toNat % 16)
    let offset := (s.port.mem.readWord last).toNat
    let length := (s.port.mem.readWord (last + 2)).toNat
    let good := offset ≤ 2047 ∧ 2 ≤ length ∧ length ≤ 256
    let u : State :=
      if 16 < waiting then
        raise .directiveOverrun 0 { s with port := { s.port with
          take := close, expected := if good then (offset + length) % 2048 else 0 } }
      else takeFrame^[min 4 waiting] s
    let rings := u.port.serveRings (s.port.mem.readWord 0x0006) (s.port.mem.readWord 0x000A)
    let serve (p : Port) (x : Access) : Port :=
      let a := x.addr.toNat % 8192 / 2 * 2
      match x.op with
      | .read => { p with adData := p.mem.readWord a }
      | .write w => { p with mem := p.mem.writeWord a w }
    ∃ t, exec .windowOpen s = .next t ∧
      t.port.window = .closed ∧ t.port.held = [] ∧
      t = { u with port := t.port } ∧
      t.port.take = u.port.take ∧ t.port.expected = u.port.expected ∧ t.port.map = u.port.map ∧
      t.port.selection = u.port.selection ∧ t.port.event = rings.event ∧ t.port.trace = rings.trace ∧
      t.port.enable = u.port.enable ∧ t.port.mode = u.port.mode ∧ t.port.timer = u.port.timer ∧
      t.port.snapshotNumber = s.port.snapshotNumber + 1 ∧
      (16 < waiting → t.port.take = close ∧ (t.faults.get .directiveOverrun).state = .latched ∧
        (t.faults.get .directiveOverrun).count = bump 255 (s.faults.get .directiveOverrun).count) ∧
      (waiting ≤ 16 → t.port.take = s.port.take + BitVec.ofNat 16 (min 4 waiting)) ∧
      t.port.cause = u.port.cause ||| (if 1 ≤ waiting ∧ waiting ≤ 16 then 0x02 else 0) |||
        (if rings.event.publish ≠ u.port.event.publish then 0x04 else 0) |||
        (if rings.trace.publish ≠ u.port.trace.publish then 0x08 else 0) ∧
      (waiting = 0 → t = { s with port := t.port }) ∧
      t.port = s.port.held.foldl serve
        { (writeOwned { u with port := rings }).port with
          cause := t.port.cause, window := .closed, windowAge := 0, held := [] } ∧
      (s.port.held = [] → ∀ a : Nat, 0x1600 ≤ a → t.port.mem.read a = s.port.mem.read a) ∧
      (s.port.held = [] → ∀ a : Nat, 0x0200 ≤ a → a < 0x0A00 →
        t.port.mem.read a = s.port.mem.read a)

/-- After a window with no held access the memory shows the part's own words as the part holds them: the take
count, both publish counts and both dropped counts; the snapshot record, field by field as Tables 11-9 and
11-10 lay it out, words low byte first; the four bytes of each kind's fault page entry (state; effective
reaction, acknowledged and escalated flags; count; instance); and the retained record as Table 11-12 lays it
out (R159, R160, R169, R178, R182, R183, R193, R194; that the window is one command is log entry 11). That
the record shows the quantities and the wheels as the last computation left them, R10, R94, R101 and R117
against R178's value held at the write, is log entry 7, the model's choice. The codes are those of Tables
1-1, 1-4, 5-3, 6-2, 9-1 and 9-2, those of the sources stand in PublishReports. -/
def Obligations.WindowWritesRecords : Prop :=
  let kinds : List FaultKind :=
    [.leanFallback, .leanLost, .rateFallback, .rateLost, .steerFallback, .steerLost, .torqueLost,
     .wheelDegraded, .speedLost, .lockReleaseTimeout, .lockEngageFailed, .lockPositionLost,
     .lockContactsConflict, .tiltOvercurrent, .steerOvercurrent, .supplyLow, .supplyHigh, .bridgeHot,
     .sensorBusStuck, .directiveOverrun]
  let word (x : Word) : List Byte := [x.setWidth 8, (x >>> 8).setWidth 8]
  let signed (x : Int) : List Byte := word (BitVec.ofInt 16 x)
  let unsigned (x : Nat) : List Byte := word (BitVec.ofNat 16 x)
  let byte (x : Nat) : List Byte := [BitVec.ofNat 8 x]
  let snapshot (s : State) : List Byte :=
    let r := s.law.results
    let wheel (x : Wheel) : WheelView := (s.wheels.get x).shown
    let quantity (q : Quantity) : QuantityView := (s.sel.get q).shown
    let members (p : Device → Bool) : Nat :=
      ((List.finRange 6).map fun i => if p (s.bus.device i) then 2 ^ i.val else 0).sum
    let kindsIn (st : KindState) : Nat := (kinds.filter fun k => (s.faults.get k).state = st).length
    let present (reaction : Reaction) : Bool :=
      kinds.any fun k => (s.faults.get k).state ≠ .clear ∧ (s.faults.get k).effective = reaction
    word s.port.snapshotNumber ++ word r.cycle ++ byte s.seq.mode.code ++ byte s.seq.lockDrive.code ++
    signed r.phi ++ signed r.phiDot ++ signed r.phiStar ++ signed r.delta ++ signed r.tauR ++
    unsigned r.v ++ unsigned (wheel .frontLeft).speed ++ unsigned (wheel .frontRight).speed ++
    unsigned (wheel .rear).speed ++
    byte ((wheel .frontLeft).state.code + 4 * (wheel .frontRight).state.code +
      16 * (wheel .rear).state.code) ++
    byte ((quantity .lean).state.code + 4 * (quantity .rate).state.code +
      16 * (quantity .steer).state.code + 64 * (quantity .torque).state.code) ++
    signed r.aEff ++ signed r.gEff ++ signed r.tTilt ++ signed r.tSteer ++ signed r.iTilt ++
    signed r.iSteer ++ signed s.conv.tiltCurrent ++ signed s.conv.steerCurrent ++
    signed s.drive.tilt.duty ++ signed s.drive.steer.duty ++ signed s.conv.supply ++
    signed s.conv.tiltTemp ++ signed s.conv.steerTemp ++
    byte (members fun d => d.cfg.enabled) ++ byte (members fun d => d.cfg.enabled && d.run.joined) ++
    byte ((quantity .lean).inUse.code + 16 * (quantity .rate).inUse.code) ++
    byte ((quantity .steer).inUse.code + 16 * (quantity .torque).inUse.code) ++
    byte (kindsIn .active) ++ byte (kindsIn .latched) ++
    byte ((if present .degrade then 1 else 0) +
      (if present .degrade ∨ present .safe ∨ s.faults.minTimer ≠ none then 2 else 0) +
      (if s.tables.commitPending then 4 else 0) + (if s.bus.stuck then 8 else 0)) ++
    byte s.seq.attemptCount ++ byte s.bus.queue.length ++ byte 0 ++ word s.tables.generation
  (∀ s : State, s.snapshotBytes = snapshot s ∧ (snapshot s).length = 64) ∧
  (∀ s : State, MemorySafe s.port → s.port.window = .opened → s.port.held = [] →
    ∃ t, exec .windowOpen s = .next t ∧
      t.port.mem.readWord 0x0002 = t.port.take ∧
      t.port.mem.readWord 0x0004 = t.port.event.publish ∧
      t.port.mem.readWord 0x0008 = t.port.trace.publish ∧
      t.port.mem.readWord 0x000C = BitVec.ofNat 16 t.port.event.dropped ∧
      t.port.mem.readWord 0x000E = BitVec.ofNat 16 t.port.trace.dropped ∧
      (∀ i : Nat, i < 64 → t.port.mem.read (0x0040 + i) = (snapshot t).getD i 0) ∧
      (∀ k : FaultKind,
        let r := t.faults.get k
        let e := 0x0080 + 4 * (k.code - 1)
        t.port.mem.read e = BitVec.ofNat 8 r.state.code ∧
        t.port.mem.read (e + 1) = BitVec.ofNat 8 (r.effective.code +
          (if r.acknowledged then 4 else 0) + (if r.escalated then 8 else 0)) ∧
        t.port.mem.read (e + 2) = BitVec.ofNat 8 r.count ∧
        t.port.mem.read (e + 3) = BitVec.ofNat 8 r.lastInstance) ∧
      (∀ i : Nat, i < 16 → t.port.mem.read (0x00D0 + i) =
        (byte t.faults.retained.kind ++ byte t.faults.retained.lastInstance ++
          byte t.faults.retained.modeBefore.code ++ byte t.faults.retained.count ++
          signed t.faults.retained.phi ++ unsigned t.faults.retained.v ++
          word t.faults.retained.cycle ++ [0, 0, 0, 0, 0, 0]).getD i 0)) ∧
  kinds.map FaultKind.code = List.range' 1 20 ∧
  [Mode.off, .held, .releasing, .active, .capturing, .engaging, .safe].map Mode.code = List.range 7 ∧
  [LockDrive.moving, .engaged, .released, .conflict].map LockDrive.code = List.range 4 ∧
  [WheelState.stopped, .rolling, .decaying, .noisy].map WheelState.code = List.range 4 ∧
  [QuantityState.primary, .fallback, .held, .lost].map QuantityState.code = List.range 4 ∧
  [KindState.clear, .active, .latched].map KindState.code = List.range 3 ∧
  [Reaction.report, .degrade, .safe].map Reaction.code = List.range 3

/-- Intake of a frame: one whose entry is bad is refused BAD_LENGTH and leaves the expected start; a
misplaced one is refused PLACEMENT and re-anchors it; one in place is decoded, and each counts as taken
(R171, R184). The common decode: a kind byte outside 1..20 is refused BAD_KIND, a body whose length is not
the one Table 11-2 gives for the code is refused BAD_LENGTH with the length received, a body that does not
reach its count among them, and neither changes any state but the staged answer; a frame that passes goes to
its owner (R185, R187). -/
def Obligations.FrameIntakeAndDecode : Prop :=
  let table : List (Nat × Directive) :=
    [(1, .enable), (2, .disable), (3, .recover), (4, .lockHold), (5, .loadAxes), (6, .loadMap),
     (7, .loadSchedule), (8, .loadTuning), (9, .commitTables), (10, .discardTables), (11, .setDevice),
     (12, .setSources), (13, .setWheel), (14, .setBus), (15, .setFaultPolicy), (16, .ackFault),
     (17, .clearFault), (18, .passThrough), (19, .setTrace), (20, .setReportMap)]
  let fits (body : List Byte) : Directive → Prop := fun d =>
    let size := body.length
    let count := (body.getD 1 0).toNat
    match d with
    | .enable | .disable | .recover | .commitTables | .discardTables => size = 0
    | .lockHold | .setBus | .ackFault | .clearFault => size = 1
    | .loadAxes => size = 34
    | .loadMap => 2 ≤ size ∧ size = 2 + 18 * count
    | .loadSchedule => size = 48
    | .loadTuning => size = 46
    | .setDevice => size = 21
    | .setSources => size = 16
    | .setWheel => size = 4
    | .setFaultPolicy => size = 3
    | .passThrough => 2 ≤ size ∧ size = 3 + count
    | .setTrace => 2 ≤ size ∧ size = 2 + count
    | .setReportMap => size = 6
  (∀ s : State,
    let e := 0x0100 + 4 * (s.port.take.toNat % 16)
    let offset := s.port.mem.readWord e
    let length := s.port.mem.readWord (e + 2)
    let good := offset.toNat ≤ 2047 ∧ 2 ≤ length.toNat ∧ length.toNat ≤ 256
    let next := (offset.toNat + length.toNat) % 2048
    let t := takeFrame s
    let counted (u : State) : State := { u with port := { u.port with take := u.port.take + 1 } }
    let anchored := { s with port := { s.port with expected := next } }
    (¬ good → t = counted (stage (.directiveDone 0 0 .badLength 0
      (wordBytes offset ++ wordBytes length)) s)) ∧
    (good → offset.toNat ≠ s.port.expected →
      t = counted (stage (.directiveDone 0 0 .placement 0
        (wordBytes offset ++ wordBytes length ++ wordBytes (BitVec.ofNat 16 s.port.expected)))
          anchored)) ∧
    (good → offset.toNat = s.port.expected →
      t = counted (takeInPlace ((List.range length.toNat).map fun i =>
        s.port.mem.read (0x0200 + (offset.toNat + i) % 2048)) anchored))) ∧
  (∀ (kind tag : Byte) (body : List Byte) (s : State),
    let t := takeInPlace (kind :: tag :: body) s
    (kind = 0 ∨ 20 < kind.toNat → t = stage (.directiveDone tag kind .badKind 0 []) s) ∧
    (∀ d, (kind.toNat, d) ∈ table → ¬ fits body d →
      t = stage (.directiveDone tag kind .badLength body.length []) s) ∧
    (∀ d, (kind.toNat, d) ∈ table → fits body d →
      (deliver d tag body s).2 = none → t = (deliver d tag body s).1) ∧
    (∀ d a, (kind.toNat, d) ∈ table → fits body d →
      (deliver d tag body s).2 = some a →
      t = stage (.directiveDone tag kind a.outcome a.detail a.data) (deliver d tag body s).1))

/-- Staging: a report takes the ring's offer number as its aux and the cycle number as it stands, and the
number rises by 1; with room it joins the tail of the queue, without it is dropped and counted up to 65535;
a kind mapped to DISCARD takes nothing (R28, R174, R176, R190). -/
def Obligations.StagedReports : Prop :=
  ∀ (b : ReportBody) (s : State),
    let t := stage b s
    let e := s.port.event
    (s.port.map.destination b = .discard → t = s) ∧
    (s.port.map.destination b = .event → e.queue.length < 16 →
      t = { s with port := { s.port with event := { e with
        offer := e.offer + 1
        queue := e.queue ++ [{ aux := e.offer, cycle := s.law.cycle, body := b }] } } }) ∧
    (s.port.map.destination b = .event → 16 ≤ e.queue.length →
      t = { s with port := { s.port with event := { e with
        offer := e.offer + 1
        dropped := if e.dropped < 65535 then e.dropped + 1 else 65535 } } }) ∧
    (s.port.map.destination b = .trace → s.port.trace.queue.length < 8 →
      t = { s with port := { s.port with trace := { s.port.trace with
        offer := s.port.trace.offer + 1
        queue := s.port.trace.queue ++
          [{ aux := s.port.trace.offer, cycle := s.law.cycle, body := b }] } } }) ∧
    (s.port.map.destination b = .trace → 8 ≤ s.port.trace.queue.length →
      t.port.trace.queue = s.port.trace.queue ∧ t.port.trace.offer = s.port.trace.offer + 1 ∧
      t.port.trace.dropped = bump 65535 s.port.trace.dropped ∧ t.port.event = e)

/-- The release count: a host count within the published frames is taken, any other releases all of them;
the oldest footprints are freed, one for each frame released. With no report waiting the port's step 3
and 4 do this alone, and write no memory (R173). -/
def Obligations.ReleaseCountTake : Prop :=
  ∀ (id : RingId) (host : Word) (r : Ring), RingSafe id r →
    let published := (r.publish - r.released).toNat
    let asked := (host - r.released).toNat
    let t := r.release host
    (asked ≤ published → t.released = host ∧ t.footprints = r.footprints.drop asked) ∧
    (published < asked → t.released = r.publish ∧ t.footprints = []) ∧
    t = { r with released := t.released, footprints := t.footprints } ∧ RingSafe id t ∧
    ∀ (p : Port) (other : Word), p.event.queue = [] → p.trace.queue = [] →
      p.serveRings host other =
        { p with event := p.event.release host, trace := p.trace.release other }

/-- Publishing the head report of a safe ring with room: its frame, laid out as R189 and Table 11-8 give it
with words low byte first, stands at the write position, wrapping in the ring's area, with a pad byte 0 where
its length is odd; its table entry holds offset and length, the publish count rises by 1, the write position
moves by the footprint; no other byte of the area, so none of an unreleased frame, and no byte outside the
area and the entry changes (R175, R182, R184, R189, R191). The codes are those of Tables 1-2, 5-1 and 11-6
and of R91. A report that does not fit stays, and nothing is published. Steps 3 and 4 of a window are the two
releases, then four such publications of the event ring, then four of the trace ring (R169, R175). -/
def Obligations.PublishReports : Prop :=
  let word (x : Word) : List Byte := [x.setWidth 8, (x >>> 8).setWidth 8]
  let byte (x : Nat) : List Byte := [BitVec.ofNat 8 x]
  let layout (rep : Report) : List Byte :=
    let header (kind : Nat) : List Byte := byte kind ++ [rep.aux] ++ word rep.cycle
    match rep.body with
    | .directiveDone tag kind outcome detail data =>
        header 1 ++ [tag, kind] ++ byte outcome.code ++ byte detail ++ data
    | .modeChanged before after cause =>
        header 2 ++ byte before.code ++ byte after.code ++ byte cause.code
    | .faultChanged kind lastInstance state reaction count =>
        header 3 ++ byte kind.code ++ byte lastInstance ++ byte state.code ++ byte reaction.code ++
          byte count
    | .sourceChanged quantity before after =>
        header 4 ++ byte quantity.code ++ byte before.code ++ byte after.code
    | .tablesSwapped generation => header 5 ++ word generation
    | .trace values => header 6 ++ byte values.length ++ [0] ++ values.flatMap word
  (∀ (id : RingId) (p : Port) (rep : Report) (rest : List Report),
    MemorySafe p → RingSafe id (p.ring id) → (p.ring id).queue = rep :: rest →
    let r := p.ring id
    let frame := layout rep
    let size := frame.length + frame.length % 2
    let place (i : Nat) : Nat := id.areaBase + (r.writePos + i) % id.areaSize
    let e := id.tableBase + 4 * (r.publish.toNat % 16)
    let q := publish 1 id p
    (r.footprints.length < 16 → size + r.footprints.sum ≤ id.areaSize →
      q.ring id = { r with publish := r.publish + 1, queue := rest
                           writePos := (r.writePos + size) % id.areaSize
                           footprints := r.footprints ++ [size] } ∧
      q = ({ p with mem := q.mem } : Port).setRing id (q.ring id) ∧
      (∀ i : Nat, i < frame.length → q.mem.read (place i) = frame.getD i 0) ∧
      (frame.length % 2 = 1 → q.mem.read (place frame.length) = 0) ∧
      (∀ i : Nat, size ≤ i → i < id.areaSize → q.mem.read (place i) = p.mem.read (place i)) ∧
      q.mem.readWord e = BitVec.ofNat 16 r.writePos ∧
      q.mem.readWord (e + 2) = BitVec.ofNat 16 frame.length ∧
      (∀ a : Nat, (a < id.areaBase ∨ id.areaBase + id.areaSize ≤ a) → (a < e ∨ e + 4 ≤ a) →
        q.mem.read a = p.mem.read a)) ∧
    (16 ≤ r.footprints.length ∨ id.areaSize < size + r.footprints.sum → q = p)) ∧
  (∀ (id : RingId) (p : Port), (p.ring id).queue = [] → publish 1 id p = p) ∧
  (∀ (p : Port) (event trace : Word), p.serveRings event trace =
    (publish 1 .trace)^[4] ((publish 1 .event)^[4]
      { p with event := p.event.release event, trace := p.trace.release trace })) ∧
  [ModeCause.directive, .speed, .lockRequest, .lockContact, .timeout, .fault,
    .captureQualified].map ModeCause.code = List.range' 1 7 ∧
  [Quantity.lean, .rate, .steer, .torque].map Quantity.code = List.range 4 ∧
  (∀ i : Fin 6, (Source.device i).code = i.val) ∧
  [Source.pot, .derived, .absent].map Source.code = [6, 7, 8] ∧
  [Answer.accepted, .acceptedClamped, .done].map Answer.code = [0, 1, 2] ∧
  [Answer.badKind, .badLength, .placement, .mode, .notReady, .pendingCommit, .noPending, .invalidTables,
    .faultsPresent, .notStopped, .queueFull].map Answer.code = List.range' 16 11 ∧
  [Answer.nackAddress, .nackData, .busTimeout].map Answer.code = [32, 33, 34] ∧
  (RingId.event.areaBase = 0x0A00 ∧ RingId.event.areaSize = 1024 ∧ RingId.event.tableBase = 0x0140) ∧
  RingId.trace.areaBase = 0x0E00 ∧ RingId.trace.areaSize = 2048 ∧ RingId.trace.tableBase = 0x0180

/-- SET_REPORT_MAP gives each kind its destination, a code above 2 becoming DISCARD and FAULT_CHANGED always
EVENT (R176). SET_TRACE keeps, of the first eight codes, those in 1..30 in their order, clamps the decimation
to 250 and sets the counter to 0 (R177). Each answers its count; what counts once is log entry 29. At a
completion of a computation the trace, while on, counts it, and at the decimation stages one TRACE with the
words of the snapshot its codes name and returns the counter to 0 (R49, R177, R192). -/
def Obligations.TraceAndReportMap : Prop :=
  (∀ (tag : Byte) (body : List Byte) (s : State),
    let r := deliver .setReportMap tag body s
    let destination (i : Nat) : Destination :=
      if byteAt body i = 0 then .event else if byteAt body i = 1 then .trace else .discard
    let above (i : Nat) : Nat := if 2 < byteAt body i then 1 else 0
    let clamped := above 0 + above 1 + (if byteAt body 2 = 0 then 0 else 1) + above 3 + above 4 + above 5
    r = ({ s with port := { s.port with map :=
            { directiveDone := destination 0, modeChanged := destination 1, faultChanged := .event
              sourceChanged := destination 3, tablesSwapped := destination 4, trace := destination 5 } } },
          some (if clamped = 0 then .plain .accepted 0 else .plain .acceptedClamped clamped))) ∧
  (∀ (tag decimation count : Byte) (codes : List Byte) (s : State), codes.length = count.toNat →
    let kept := ((codes.take 8).map BitVec.toNat).filter fun c => decide (1 ≤ c ∧ c ≤ 30)
    let clamped := (if 250 < decimation.toNat then 1 else 0) + (codes.length - kept.length)
    deliver .setTrace tag (decimation :: count :: codes) s =
      ({ s with port := { s.port with selection :=
          { codes := kept, decimation := min 250 decimation.toNat, counter := 0 } } },
        some (if clamped = 0 then .plain .accepted 0 else .plain .acceptedClamped (min 255 clamped)))) ∧
  ∀ s : State,
    let x := s.port.selection
    let t := traceSample s
    (x.decimation = 0 ∨ x.codes = [] → t = s) ∧
    (x.decimation ≠ 0 → x.codes ≠ [] → x.counter + 1 < x.decimation →
      t = { s with port := { s.port with selection := { x with counter := x.counter + 1 } } }) ∧
    (x.decimation ≠ 0 → x.codes ≠ [] → x.decimation ≤ x.counter + 1 →
      t = stage (.trace (x.codes.map fun c => joinBytes (s.snapshotBytes.getD (2 * c) 0)
            (s.snapshotBytes.getD (2 * c + 1) 0)))
          { s with port := { s.port with selection := { x with counter := 0 } } }) ∧
    ∀ c : Computation, s.law.computing = some c →
      exec .computationComplete s = .next (traceSample (cycleEnd
        { s with law := { s.law with computing := none, results := c.results }
                 drive := { s.drive with tilt := { s.drive.tilt with setpoint := c.results.iTilt }
                                         steer := { s.drive.steer with setpoint := c.results.iSteer } } }))
end

