-- ==== Sys2Proof/Laws/Arith.lean ====
section
/-! SUPPORT. The manual's arithmetic: where clamps and rounded divisions lie, and the entries of the
fixed tables. -/

namespace Sys2Proof.Machine

theorem clampInt_bounds {lo hi : Int} (h : lo ≤ hi) (x : Int) :
    lo ≤ clampInt lo hi x ∧ clampInt lo hi x ≤ hi := by
  unfold clampInt
  split <;> (try split) <;> omega

theorem clampInt_of_mem {lo hi x : Int} (h1 : lo ≤ x) (h2 : x ≤ hi) : clampInt lo hi x = x := by
  unfold clampInt
  split <;> (try split) <;> omega

theorem clampSym_natAbs (m : Nat) (x : Int) : (clampSym m x).natAbs ≤ m := by
  have := clampInt_bounds (lo := -(m : Int)) (hi := m) (by omega) x
  unfold clampSym
  omega

theorem bump_le (limit n : Nat) : bump limit n ≤ limit := by
  unfold bump
  split <;> omega

/-- A rounded division lies in lo..hi when the exact quotient does. -/
theorem rdiv_bounds {a lo hi : Int} {b : Nat} (hb : 0 < b) (h1 : lo * b ≤ a) (h2 : a ≤ hi * b) :
    lo ≤ rdiv a b ∧ rdiv a b ≤ hi := by
  have e1 : ∀ x : Nat, 2 * b * ((2 * x + b) / (2 * b)) ≤ 2 * x + b := fun x => Nat.mul_div_le _ _
  have e2 : ∀ x : Nat, 2 * x + b < 2 * b * ((2 * x + b) / (2 * b) + 1) := fun x =>
    Nat.lt_mul_div_succ _ (by omega)
  have e1 := e1 a.natAbs
  have e2 := e2 a.natAbs
  unfold rdiv
  generalize (2 * a.natAbs + b) / (2 * b) = q at e1 e2
  have hq1 : 2 * (b : Int) * q ≤ 2 * a.natAbs + b := by exact_mod_cast e1
  have hq2 : 2 * (a.natAbs : Int) + b < 2 * b * (q + 1) := by exact_mod_cast e2
  have hb' : (0 : Int) < b := by omega
  dsimp only
  split
  · have ha : (a.natAbs : Int) = -a := by omega
    rw [ha] at hq1 hq2
    constructor
    · by_contra h
      have : lo ≥ -(q : Int) + 1 := by omega
      nlinarith
    · by_contra h
      have : -(q : Int) ≥ hi + 1 := by omega
      nlinarith
  · have ha : (a.natAbs : Int) = a := by omega
    rw [ha] at hq1 hq2
    constructor
    · by_contra h
      have : lo ≥ (q : Int) + 1 := by omega
      nlinarith
    · by_contra h
      have : (q : Int) ≥ hi + 1 := by omega
      nlinarith

theorem rdiv_nonneg {a : Int} (h : 0 ≤ a) (b : Nat) : 0 ≤ rdiv a b := by
  unfold rdiv
  rw [if_neg (by omega)]
  exact Int.natCast_nonneg _

theorem rdiv_nonpos {a : Int} (h : a ≤ 0) (b : Nat) (hb : 0 < b) : rdiv a b ≤ 0 :=
  (rdiv_bounds (lo := a) hb (by nlinarith) (by omega)).2

theorem rdiv_zero (b : Nat) (hb : 0 < b) : rdiv 0 b = 0 := by
  have := rdiv_bounds (a := 0) (lo := 0) (hi := 0) hb (by omega) (by omega)
  omega

/-- Entry i of the table whose entries are f. -/
theorem entry_tableOf {α : Type} {n : Nat} (f : Fin n → α) (d : α) {i : Nat} (h : i < n) :
    entry (tableOf f) i d = f ⟨i, h⟩ := by
  simp [entry, tableOf, h]

theorem tableOf_get {α : Type} {n : Nat} (f : Fin n → α) (i : Nat) (h : i < n) :
    (tableOf f)[i] = f ⟨i, h⟩ := by
  simp [tableOf]

theorem tableMap_get {α β : Type} {n : Nat} (f : α → β) (v : Vector α n) (i : Nat) (h : i < n) :
    (tableMap f v)[i] = f v[i] := by
  simp [tableMap]

end Sys2Proof.Machine
end

