-- ==== Sys2Proof/Laws/BusWork.lean ====
section
/-! SUPPORT. What a freed bus takes up and how a round goes on after a poll, said once in the terms of
Safety.lean (R75, R76, R81, R87). -/

namespace Sys2Proof.Machine

/-- The first index a test picks out of the six, if any. -/
theorem find_index_some (p : Fin 6 → Bool) (i : Fin 6) :
    [0, 1, 2, 3, 4, 5].find? p = some i ↔ p i = true ∧ ∀ j, j < i → p j = false := by
  fin_cases i <;> simp [Fin.forall_fin_succ, List.find?] <;> cases p 0 <;> simp <;> cases p 1 <;> simp <;>
    cases p 2 <;> simp <;> cases p 3 <;> simp <;> cases p 4 <;> simp <;> cases p 5 <;> simp

/-- No index passes a test. -/
theorem find_index_none (p : Fin 6 → Bool) :
    [0, 1, 2, 3, 4, 5].find? p = none ↔ ∀ i, p i = false := by
  simp [Fin.forall_fin_succ]

/-- Some enabled index lies above a poll's exactly when one is found. -/
theorem Bus.nextEnabled_isSome (b : Bus) (i : Fin 6) :
    (∃ j, b.nextEnabled (some i) = some j) ↔ ∃ j : Fin 6, i < j ∧ (b.device j).cfg.enabled = true := by
  cases h : b.nextEnabled (some i) with
  | none =>
    simp only [reduceCtorEq, exists_false, false_iff, not_exists]
    rintro j ⟨above_i, enabled⟩
    have := (find_index_none _).1 h j
    simp [above, enabled] at this
    omega
  | some j =>
    have := ((find_index_some _ _).1 h).1
    simp [above] at this
    exact ⟨fun _ => ⟨j, this⟩, fun _ => ⟨j, rfl⟩⟩

/-- The round after a poll, whole. -/
theorem Bus.afterPoll_eq (b : Bus) (i : Fin 6) (oldRound : Bool) :
    b.afterPoll i oldRound = { b with
      round := if oldRound = true then b.round
        else if ∃ j : Fin 6, i < j ∧ (b.device j).cfg.enabled = true then .polling (some i)
        else .done } := by
  have found := b.nextEnabled_isSome i
  unfold Bus.afterPoll
  cases oldRound with
  | true => rfl
  | false =>
    cases h : b.nextEnabled (some i) with
    | none => rw [if_neg (found.not.1 (by simp [h]))]; rfl
    | some j => rw [if_pos (found.1 ⟨j, h⟩)]; rfl

/-- A freed bus takes up what the rules say. -/
theorem Bus.free_takesUp (b : Bus) : b.TakesUp b.free := by
  unfold Bus.TakesUp
  intro rests waits pollsDone
  have picked : ∀ last i, (above last i && (b.device i).cfg.enabled) = true ↔ waits last i := by
    intro last i; cases last <;> simp [above, waits, and_comm]
  have passedOver : ∀ last i, (above last i && (b.device i).cfg.enabled) = false ↔ ¬ waits last i := by
    intro last i; rw [← picked]; simp
  have pass : (b.passUsed = true ∨ b.queue = [] → (rests .done).startPass = rests .done) ∧
      ∀ p rest, b.passUsed = false → b.queue = p :: rest → (rests .done).startPass =
        { rests .done with activity := .passThrough { speed := b.speed, wire := p.wire }
                           passUsed := true } := by
    refine ⟨?_, fun p rest used queue => by simp [Bus.startPass, rests, used, queue]⟩
    rintro (used | queue)
    · simp [Bus.startPass, rests, used]
    · unfold Bus.startPass; simp only [rests, queue]; cases b.passUsed <;> rfl
  refine ⟨fun stuck => by simp [Bus.free, Bus.next, stuck, rests], fun ready => ⟨?_, ?_, ?_⟩⟩
  · intro round; simp [Bus.free, Bus.next, ready, rests, round]
  · intro round
    have : b.free = (rests .done).startPass := by simp [Bus.free, Bus.next, ready, rests, round]
    simpa only [pollsDone, this] using pass
  · intro last round
    have goesOn : b.free = match b.nextEnabled last with
        | some i => ({ b with activity := .idle } : Bus).startPoll i
        | none => (rests .done).startPass := by
      simp only [Bus.free, Bus.next, ready, round, rests]; rfl
    refine ⟨fun i waiting lowest => ?_, fun nobody => ?_⟩
    · have : b.nextEnabled last = some i :=
        (find_index_some _ _).2 ⟨(picked _ _).2 waiting, fun j lower => (passedOver _ _).2 (lowest j lower)⟩
      rw [goesOn, this]; rfl
    · have : b.nextEnabled last = none := (find_index_none _).2 fun i => (passedOver _ _).2 (nobody i)
      rw [this] at goesOn
      simpa only [pollsDone, goesOn] using pass

end Sys2Proof.Machine
end

