-- ==== Sys2Proof/Laws/State.lean ====
section
/-! SUPPORT. What each named update of the state sets, and the fields it leaves alone, one lemma for each
field, so that no proof unfolds a record update. -/

namespace Sys2Proof.Machine

/-! ### setPort -/

@[simp] theorem setPort_pending (p : Port) (s : State) : (setPort p s).pending = s.pending := rfl
@[simp] theorem setPort_phase (p : Port) (s : State) : (setPort p s).phase = s.phase := rfl
@[simp] theorem setPort_rstn (p : Port) (s : State) : (setPort p s).rstn = s.rstn := rfl
@[simp] theorem setPort_ticks (p : Port) (s : State) : (setPort p s).ticks = s.ticks := rfl
@[simp] theorem setPort_seq (p : Port) (s : State) : (setPort p s).seq = s.seq := rfl
@[simp] theorem setPort_law (p : Port) (s : State) : (setPort p s).law = s.law := rfl
@[simp] theorem setPort_tables (p : Port) (s : State) : (setPort p s).tables = s.tables := rfl
@[simp] theorem setPort_bus (p : Port) (s : State) : (setPort p s).bus = s.bus := rfl
@[simp] theorem setPort_sel (p : Port) (s : State) : (setPort p s).sel = s.sel := rfl
@[simp] theorem setPort_wheels (p : Port) (s : State) : (setPort p s).wheels = s.wheels := rfl
@[simp] theorem setPort_conv (p : Port) (s : State) : (setPort p s).conv = s.conv := rfl
@[simp] theorem setPort_drive (p : Port) (s : State) : (setPort p s).drive = s.drive := rfl
@[simp] theorem setPort_faults (p : Port) (s : State) : (setPort p s).faults = s.faults := rfl
@[simp] theorem setPort_port (p : Port) (s : State) : (setPort p s).port = p := rfl

/-! ### setConv -/

@[simp] theorem setConv_pending (c : Converter) (s : State) : (setConv c s).pending = s.pending := rfl
@[simp] theorem setConv_phase (c : Converter) (s : State) : (setConv c s).phase = s.phase := rfl
@[simp] theorem setConv_rstn (c : Converter) (s : State) : (setConv c s).rstn = s.rstn := rfl
@[simp] theorem setConv_ticks (c : Converter) (s : State) : (setConv c s).ticks = s.ticks := rfl
@[simp] theorem setConv_seq (c : Converter) (s : State) : (setConv c s).seq = s.seq := rfl
@[simp] theorem setConv_law (c : Converter) (s : State) : (setConv c s).law = s.law := rfl
@[simp] theorem setConv_tables (c : Converter) (s : State) : (setConv c s).tables = s.tables := rfl
@[simp] theorem setConv_bus (c : Converter) (s : State) : (setConv c s).bus = s.bus := rfl
@[simp] theorem setConv_sel (c : Converter) (s : State) : (setConv c s).sel = s.sel := rfl
@[simp] theorem setConv_wheels (c : Converter) (s : State) : (setConv c s).wheels = s.wheels := rfl
@[simp] theorem setConv_conv (c : Converter) (s : State) : (setConv c s).conv = c := rfl
@[simp] theorem setConv_drive (c : Converter) (s : State) : (setConv c s).drive = s.drive := rfl
@[simp] theorem setConv_faults (c : Converter) (s : State) : (setConv c s).faults = s.faults := rfl
@[simp] theorem setConv_port (c : Converter) (s : State) : (setConv c s).port = s.port := rfl

/-! ### setBusState -/

@[simp] theorem setBusState_pending (b : Bus) (s : State) : (setBusState b s).pending = s.pending := rfl
@[simp] theorem setBusState_phase (b : Bus) (s : State) : (setBusState b s).phase = s.phase := rfl
@[simp] theorem setBusState_rstn (b : Bus) (s : State) : (setBusState b s).rstn = s.rstn := rfl
@[simp] theorem setBusState_ticks (b : Bus) (s : State) : (setBusState b s).ticks = s.ticks := rfl
@[simp] theorem setBusState_seq (b : Bus) (s : State) : (setBusState b s).seq = s.seq := rfl
@[simp] theorem setBusState_law (b : Bus) (s : State) : (setBusState b s).law = s.law := rfl
@[simp] theorem setBusState_tables (b : Bus) (s : State) : (setBusState b s).tables = s.tables := rfl
@[simp] theorem setBusState_bus (b : Bus) (s : State) : (setBusState b s).bus = b := rfl
@[simp] theorem setBusState_sel (b : Bus) (s : State) : (setBusState b s).sel = s.sel := rfl
@[simp] theorem setBusState_wheels (b : Bus) (s : State) : (setBusState b s).wheels = s.wheels := rfl
@[simp] theorem setBusState_conv (b : Bus) (s : State) : (setBusState b s).conv = s.conv := rfl
@[simp] theorem setBusState_drive (b : Bus) (s : State) : (setBusState b s).drive = s.drive := rfl
@[simp] theorem setBusState_faults (b : Bus) (s : State) : (setBusState b s).faults = s.faults := rfl
@[simp] theorem setBusState_port (b : Bus) (s : State) : (setBusState b s).port = s.port := rfl

/-! ### putQuantity -/

@[simp] theorem putQuantity_pending (q : Quantity) (r : QuantityRecord) (s : State) : (putQuantity q r s).pending = s.pending := rfl
@[simp] theorem putQuantity_phase (q : Quantity) (r : QuantityRecord) (s : State) : (putQuantity q r s).phase = s.phase := rfl
@[simp] theorem putQuantity_rstn (q : Quantity) (r : QuantityRecord) (s : State) : (putQuantity q r s).rstn = s.rstn := rfl
@[simp] theorem putQuantity_ticks (q : Quantity) (r : QuantityRecord) (s : State) : (putQuantity q r s).ticks = s.ticks := rfl
@[simp] theorem putQuantity_seq (q : Quantity) (r : QuantityRecord) (s : State) : (putQuantity q r s).seq = s.seq := rfl
@[simp] theorem putQuantity_law (q : Quantity) (r : QuantityRecord) (s : State) : (putQuantity q r s).law = s.law := rfl
@[simp] theorem putQuantity_tables (q : Quantity) (r : QuantityRecord) (s : State) : (putQuantity q r s).tables = s.tables := rfl
@[simp] theorem putQuantity_bus (q : Quantity) (r : QuantityRecord) (s : State) : (putQuantity q r s).bus = s.bus := rfl
@[simp] theorem putQuantity_sel (q : Quantity) (r : QuantityRecord) (s : State) : (putQuantity q r s).sel = s.sel.put q r := rfl
@[simp] theorem putQuantity_wheels (q : Quantity) (r : QuantityRecord) (s : State) : (putQuantity q r s).wheels = s.wheels := rfl
@[simp] theorem putQuantity_conv (q : Quantity) (r : QuantityRecord) (s : State) : (putQuantity q r s).conv = s.conv := rfl
@[simp] theorem putQuantity_drive (q : Quantity) (r : QuantityRecord) (s : State) : (putQuantity q r s).drive = s.drive := rfl
@[simp] theorem putQuantity_faults (q : Quantity) (r : QuantityRecord) (s : State) : (putQuantity q r s).faults = s.faults := rfl
@[simp] theorem putQuantity_port (q : Quantity) (r : QuantityRecord) (s : State) : (putQuantity q r s).port = s.port := rfl

/-! ### putFault -/

@[simp] theorem putFault_pending (k : FaultKind) (r : FaultRecord) (s : State) : (putFault k r s).pending = s.pending := rfl
@[simp] theorem putFault_phase (k : FaultKind) (r : FaultRecord) (s : State) : (putFault k r s).phase = s.phase := rfl
@[simp] theorem putFault_rstn (k : FaultKind) (r : FaultRecord) (s : State) : (putFault k r s).rstn = s.rstn := rfl
@[simp] theorem putFault_ticks (k : FaultKind) (r : FaultRecord) (s : State) : (putFault k r s).ticks = s.ticks := rfl
@[simp] theorem putFault_seq (k : FaultKind) (r : FaultRecord) (s : State) : (putFault k r s).seq = s.seq := rfl
@[simp] theorem putFault_law (k : FaultKind) (r : FaultRecord) (s : State) : (putFault k r s).law = s.law := rfl
@[simp] theorem putFault_tables (k : FaultKind) (r : FaultRecord) (s : State) : (putFault k r s).tables = s.tables := rfl
@[simp] theorem putFault_bus (k : FaultKind) (r : FaultRecord) (s : State) : (putFault k r s).bus = s.bus := rfl
@[simp] theorem putFault_sel (k : FaultKind) (r : FaultRecord) (s : State) : (putFault k r s).sel = s.sel := rfl
@[simp] theorem putFault_wheels (k : FaultKind) (r : FaultRecord) (s : State) : (putFault k r s).wheels = s.wheels := rfl
@[simp] theorem putFault_conv (k : FaultKind) (r : FaultRecord) (s : State) : (putFault k r s).conv = s.conv := rfl
@[simp] theorem putFault_drive (k : FaultKind) (r : FaultRecord) (s : State) : (putFault k r s).drive = s.drive := rfl
@[simp] theorem putFault_faults (k : FaultKind) (r : FaultRecord) (s : State) : (putFault k r s).faults = s.faults.put k r := rfl
@[simp] theorem putFault_port (k : FaultKind) (r : FaultRecord) (s : State) : (putFault k r s).port = s.port := rfl

/-! ### setCause -/

@[simp] theorem setCause_pending (c : Cause) (s : State) : (setCause c s).pending = s.pending := rfl
@[simp] theorem setCause_phase (c : Cause) (s : State) : (setCause c s).phase = s.phase := rfl
@[simp] theorem setCause_rstn (c : Cause) (s : State) : (setCause c s).rstn = s.rstn := rfl
@[simp] theorem setCause_ticks (c : Cause) (s : State) : (setCause c s).ticks = s.ticks := rfl
@[simp] theorem setCause_seq (c : Cause) (s : State) : (setCause c s).seq = s.seq := rfl
@[simp] theorem setCause_law (c : Cause) (s : State) : (setCause c s).law = s.law := rfl
@[simp] theorem setCause_tables (c : Cause) (s : State) : (setCause c s).tables = s.tables := rfl
@[simp] theorem setCause_bus (c : Cause) (s : State) : (setCause c s).bus = s.bus := rfl
@[simp] theorem setCause_sel (c : Cause) (s : State) : (setCause c s).sel = s.sel := rfl
@[simp] theorem setCause_wheels (c : Cause) (s : State) : (setCause c s).wheels = s.wheels := rfl
@[simp] theorem setCause_conv (c : Cause) (s : State) : (setCause c s).conv = s.conv := rfl
@[simp] theorem setCause_drive (c : Cause) (s : State) : (setCause c s).drive = s.drive := rfl
@[simp] theorem setCause_faults (c : Cause) (s : State) : (setCause c s).faults = s.faults := rfl
@[simp] theorem setCause_port (c : Cause) (s : State) : (setCause c s).port = { s.port with cause := s.port.cause ||| c.mask } := rfl

/-! ### setSolenoid -/

@[simp] theorem setSolenoid_pending (on : Bool) (s : State) : (setSolenoid on s).pending = s.pending := rfl
@[simp] theorem setSolenoid_phase (on : Bool) (s : State) : (setSolenoid on s).phase = s.phase := rfl
@[simp] theorem setSolenoid_rstn (on : Bool) (s : State) : (setSolenoid on s).rstn = s.rstn := rfl
@[simp] theorem setSolenoid_ticks (on : Bool) (s : State) : (setSolenoid on s).ticks = s.ticks := rfl
@[simp] theorem setSolenoid_seq (on : Bool) (s : State) : (setSolenoid on s).seq = { s.seq with solenoid := on } := rfl
@[simp] theorem setSolenoid_law (on : Bool) (s : State) : (setSolenoid on s).law = s.law := rfl
@[simp] theorem setSolenoid_tables (on : Bool) (s : State) : (setSolenoid on s).tables = s.tables := rfl
@[simp] theorem setSolenoid_bus (on : Bool) (s : State) : (setSolenoid on s).bus = s.bus := rfl
@[simp] theorem setSolenoid_sel (on : Bool) (s : State) : (setSolenoid on s).sel = s.sel := rfl
@[simp] theorem setSolenoid_wheels (on : Bool) (s : State) : (setSolenoid on s).wheels = s.wheels := rfl
@[simp] theorem setSolenoid_conv (on : Bool) (s : State) : (setSolenoid on s).conv = s.conv := rfl
@[simp] theorem setSolenoid_drive (on : Bool) (s : State) : (setSolenoid on s).drive = s.drive.command s.seq.solenoid on := rfl
@[simp] theorem setSolenoid_faults (on : Bool) (s : State) : (setSolenoid on s).faults = s.faults := rfl
@[simp] theorem setSolenoid_port (on : Bool) (s : State) : (setSolenoid on s).port = s.port := rfl

/-! ### want -/

@[simp] theorem want_pending (b : Bridge) (on : Bool) (s : State) : (want b on s).pending = s.pending := rfl
@[simp] theorem want_phase (b : Bridge) (on : Bool) (s : State) : (want b on s).phase = s.phase := rfl
@[simp] theorem want_rstn (b : Bridge) (on : Bool) (s : State) : (want b on s).rstn = s.rstn := rfl
@[simp] theorem want_ticks (b : Bridge) (on : Bool) (s : State) : (want b on s).ticks = s.ticks := rfl
@[simp] theorem want_seq (b : Bridge) (on : Bool) (s : State) : (want b on s).seq = s.seq := rfl
@[simp] theorem want_law (b : Bridge) (on : Bool) (s : State) : (want b on s).law = s.law := rfl
@[simp] theorem want_tables (b : Bridge) (on : Bool) (s : State) : (want b on s).tables = s.tables := rfl
@[simp] theorem want_bus (b : Bridge) (on : Bool) (s : State) : (want b on s).bus = s.bus := rfl
@[simp] theorem want_sel (b : Bridge) (on : Bool) (s : State) : (want b on s).sel = s.sel := rfl
@[simp] theorem want_wheels (b : Bridge) (on : Bool) (s : State) : (want b on s).wheels = s.wheels := rfl
@[simp] theorem want_conv (b : Bridge) (on : Bool) (s : State) : (want b on s).conv = s.conv := rfl
@[simp] theorem want_drive (b : Bridge) (on : Bool) (s : State) : (want b on s).drive = s.drive.setChannel b
    ((s.drive.channel b).want on ((s.faults.get b.overcurrent).state == .clear)) := rfl
@[simp] theorem want_faults (b : Bridge) (on : Bool) (s : State) : (want b on s).faults = s.faults := rfl
@[simp] theorem want_port (b : Bridge) (on : Bool) (s : State) : (want b on s).port = s.port := rfl

/-! ### writeRetained -/

@[simp] theorem writeRetained_pending (k : FaultKind) (n : Nat) (m : Mode) (s : State) : (writeRetained k n m s).pending = s.pending := rfl
@[simp] theorem writeRetained_phase (k : FaultKind) (n : Nat) (m : Mode) (s : State) : (writeRetained k n m s).phase = s.phase := rfl
@[simp] theorem writeRetained_rstn (k : FaultKind) (n : Nat) (m : Mode) (s : State) : (writeRetained k n m s).rstn = s.rstn := rfl
@[simp] theorem writeRetained_ticks (k : FaultKind) (n : Nat) (m : Mode) (s : State) : (writeRetained k n m s).ticks = s.ticks := rfl
@[simp] theorem writeRetained_seq (k : FaultKind) (n : Nat) (m : Mode) (s : State) : (writeRetained k n m s).seq = s.seq := rfl
@[simp] theorem writeRetained_law (k : FaultKind) (n : Nat) (m : Mode) (s : State) : (writeRetained k n m s).law = s.law := rfl
@[simp] theorem writeRetained_tables (k : FaultKind) (n : Nat) (m : Mode) (s : State) : (writeRetained k n m s).tables = s.tables := rfl
@[simp] theorem writeRetained_bus (k : FaultKind) (n : Nat) (m : Mode) (s : State) : (writeRetained k n m s).bus = s.bus := rfl
@[simp] theorem writeRetained_sel (k : FaultKind) (n : Nat) (m : Mode) (s : State) : (writeRetained k n m s).sel = s.sel := rfl
@[simp] theorem writeRetained_wheels (k : FaultKind) (n : Nat) (m : Mode) (s : State) : (writeRetained k n m s).wheels = s.wheels := rfl
@[simp] theorem writeRetained_conv (k : FaultKind) (n : Nat) (m : Mode) (s : State) : (writeRetained k n m s).conv = s.conv := rfl
@[simp] theorem writeRetained_drive (k : FaultKind) (n : Nat) (m : Mode) (s : State) : (writeRetained k n m s).drive = s.drive := rfl
@[simp] theorem writeRetained_port (k : FaultKind) (n : Nat) (m : Mode) (s : State) : (writeRetained k n m s).port = s.port := rfl

/-! ### QuantityRecord.show and WheelRecord.show -/

@[simp] theorem QuantityRecord.show_primary (r : QuantityRecord) : r.show.primary = r.primary := rfl
@[simp] theorem QuantityRecord.show_fallback (r : QuantityRecord) : r.show.fallback = r.fallback := rfl
@[simp] theorem QuantityRecord.show_state (r : QuantityRecord) : r.show.state = r.state := rfl
@[simp] theorem QuantityRecord.show_inUse (r : QuantityRecord) : r.show.inUse = r.inUse := rfl
@[simp] theorem QuantityRecord.show_held (r : QuantityRecord) : r.show.held = r.held := rfl
@[simp] theorem QuantityRecord.show_holdCount (r : QuantityRecord) : r.show.holdCount = r.holdCount := rfl
@[simp] theorem QuantityRecord.show_returnCount (r : QuantityRecord) : r.show.returnCount = r.returnCount := rfl
@[simp] theorem QuantityRecord.show_raised (r : QuantityRecord) : r.show.raised = r.raised := rfl
@[simp] theorem QuantityRecord.show_shown (r : QuantityRecord) :
    r.show.shown = { state := r.state, inUse := r.inUse } := rfl

@[simp] theorem WheelRecord.show_teeth (w : WheelRecord) : w.show.teeth = w.teeth := rfl
@[simp] theorem WheelRecord.show_circumference (w : WheelRecord) : w.show.circumference = w.circumference := rfl
@[simp] theorem WheelRecord.show_arc (w : WheelRecord) : w.show.arc = w.arc := rfl
@[simp] theorem WheelRecord.show_state (w : WheelRecord) : w.show.state = w.state := rfl
@[simp] theorem WheelRecord.show_reference (w : WheelRecord) : w.show.reference = w.reference := rfl
@[simp] theorem WheelRecord.show_lastPeriod (w : WheelRecord) : w.show.lastPeriod = w.lastPeriod := rfl
@[simp] theorem WheelRecord.show_rejectRun (w : WheelRecord) : w.show.rejectRun = w.rejectRun := rfl
@[simp] theorem WheelRecord.show_acceptRun (w : WheelRecord) : w.show.acceptRun = w.acceptRun := rfl
@[simp] theorem WheelRecord.show_speed (w : WheelRecord) : w.show.speed = w.speed := rfl
@[simp] theorem WheelRecord.show_shown (w : WheelRecord) :
    w.show.shown = { state := w.state, speed := w.speed } := rfl

end Sys2Proof.Machine
end

