-- ==== Sys2Proof/Laws/Frames.lean ====
section
/-! SUPPORT. What the shared operations leave alone: staging, mode changes, entries, the table swap, and the fault
monitor's raise, end, escalation and clear. One lemma an operation; simp takes each of its parts. -/

namespace Sys2Proof.Machine

/-- What `stage` leaves alone. -/
@[simp] theorem stage_keeps (b : ReportBody) (s : State) :
    (stage b s).pending = s.pending ∧ (stage b s).phase = s.phase ∧ (stage b s).rstn = s.rstn ∧
    (stage b s).ticks = s.ticks ∧ (stage b s).seq = s.seq ∧ (stage b s).law = s.law ∧
    (stage b s).tables = s.tables ∧ (stage b s).bus = s.bus ∧ (stage b s).sel = s.sel ∧
    (stage b s).wheels = s.wheels ∧ (stage b s).conv = s.conv ∧ (stage b s).drive = s.drive ∧
    (stage b s).faults = s.faults ∧ (stage b s).port.mem = s.port.mem ∧
    (stage b s).port.timer = s.port.timer ∧ (stage b s).port.window = s.port.window ∧
    (stage b s).port.windowAge = s.port.windowAge ∧
    (stage b s).port.opensAtCompletion = s.port.opensAtCompletion ∧
    (stage b s).port.holdArmed = s.port.holdArmed ∧ (stage b s).port.deferral = s.port.deferral ∧
    (stage b s).port.inProgress = s.port.inProgress ∧ (stage b s).port.held = s.port.held ∧
    (stage b s).port.adData = s.port.adData ∧ (stage b s).port.cause = s.port.cause ∧
    (stage b s).port.enable = s.port.enable ∧ (stage b s).port.mode = s.port.mode ∧
    (stage b s).port.take = s.port.take ∧ (stage b s).port.expected = s.port.expected ∧
    (stage b s).port.map = s.port.map ∧ (stage b s).port.selection = s.port.selection ∧
    (stage b s).port.snapshotNumber = s.port.snapshotNumber := by
  unfold stage
  split <;> simp [Port.setRing]

/-- What `changeMode` leaves alone. -/
@[simp] theorem changeMode_keeps (m : Mode) (c : ModeCause) (on latch : Bool) (s : State) :
    (changeMode m c on latch s).pending = s.pending ∧ (changeMode m c on latch s).phase = s.phase ∧
    (changeMode m c on latch s).rstn = s.rstn ∧ (changeMode m c on latch s).ticks = s.ticks ∧
    (changeMode m c on latch s).law = s.law ∧ (changeMode m c on latch s).tables = s.tables ∧
    (changeMode m c on latch s).bus = s.bus ∧ (changeMode m c on latch s).sel = s.sel ∧
    (changeMode m c on latch s).wheels = s.wheels ∧ (changeMode m c on latch s).conv = s.conv ∧
    (changeMode m c on latch s).faults = s.faults ∧
    (changeMode m c on latch s).port.mem = s.port.mem ∧
    (changeMode m c on latch s).port.timer = s.port.timer ∧
    (changeMode m c on latch s).port.window = s.port.window ∧
    (changeMode m c on latch s).port.windowAge = s.port.windowAge ∧
    (changeMode m c on latch s).port.opensAtCompletion = s.port.opensAtCompletion ∧
    (changeMode m c on latch s).port.holdArmed = s.port.holdArmed ∧
    (changeMode m c on latch s).port.deferral = s.port.deferral ∧
    (changeMode m c on latch s).port.inProgress = s.port.inProgress ∧
    (changeMode m c on latch s).port.held = s.port.held ∧
    (changeMode m c on latch s).port.adData = s.port.adData ∧
    (changeMode m c on latch s).port.cause = s.port.cause ∧
    (changeMode m c on latch s).port.enable = s.port.enable ∧
    (changeMode m c on latch s).port.mode = s.port.mode ∧
    (changeMode m c on latch s).port.take = s.port.take ∧
    (changeMode m c on latch s).port.expected = s.port.expected ∧
    (changeMode m c on latch s).port.map = s.port.map ∧
    (changeMode m c on latch s).port.selection = s.port.selection ∧
    (changeMode m c on latch s).port.snapshotNumber = s.port.snapshotNumber := by
  simp [changeMode]

/-- What `enterMode` leaves alone. -/
@[simp] theorem enterMode_keeps (m : Mode) (c : ModeCause) (s : State) :
    (enterMode m c s).pending = s.pending ∧ (enterMode m c s).phase = s.phase ∧
    (enterMode m c s).rstn = s.rstn ∧ (enterMode m c s).ticks = s.ticks ∧
    (enterMode m c s).law = s.law ∧ (enterMode m c s).tables = s.tables ∧
    (enterMode m c s).bus = s.bus ∧ (enterMode m c s).sel = s.sel ∧
    (enterMode m c s).wheels = s.wheels ∧ (enterMode m c s).conv = s.conv ∧
    (enterMode m c s).faults = s.faults ∧ (enterMode m c s).port.mem = s.port.mem ∧
    (enterMode m c s).port.timer = s.port.timer ∧ (enterMode m c s).port.window = s.port.window ∧
    (enterMode m c s).port.windowAge = s.port.windowAge ∧
    (enterMode m c s).port.opensAtCompletion = s.port.opensAtCompletion ∧
    (enterMode m c s).port.holdArmed = s.port.holdArmed ∧
    (enterMode m c s).port.deferral = s.port.deferral ∧
    (enterMode m c s).port.inProgress = s.port.inProgress ∧
    (enterMode m c s).port.held = s.port.held ∧ (enterMode m c s).port.adData = s.port.adData ∧
    (enterMode m c s).port.cause = s.port.cause ∧ (enterMode m c s).port.enable = s.port.enable ∧
    (enterMode m c s).port.mode = s.port.mode ∧ (enterMode m c s).port.take = s.port.take ∧
    (enterMode m c s).port.expected = s.port.expected ∧ (enterMode m c s).port.map = s.port.map ∧
    (enterMode m c s).port.selection = s.port.selection ∧
    (enterMode m c s).port.snapshotNumber = s.port.snapshotNumber := by
  simp [enterMode]

/-- What `swap` leaves alone. -/
@[simp] theorem swap_keeps (s : State) :
    (swap s).pending = s.pending ∧ (swap s).phase = s.phase ∧ (swap s).rstn = s.rstn ∧
    (swap s).ticks = s.ticks ∧ (swap s).seq = s.seq ∧ (swap s).law = s.law ∧ (swap s).bus = s.bus ∧
    (swap s).sel = s.sel ∧ (swap s).wheels = s.wheels ∧ (swap s).conv = s.conv ∧
    (swap s).drive = s.drive ∧ (swap s).faults = s.faults ∧ (swap s).port.mem = s.port.mem ∧
    (swap s).port.timer = s.port.timer ∧ (swap s).port.window = s.port.window ∧
    (swap s).port.windowAge = s.port.windowAge ∧
    (swap s).port.opensAtCompletion = s.port.opensAtCompletion ∧
    (swap s).port.holdArmed = s.port.holdArmed ∧ (swap s).port.deferral = s.port.deferral ∧
    (swap s).port.inProgress = s.port.inProgress ∧ (swap s).port.held = s.port.held ∧
    (swap s).port.adData = s.port.adData ∧ (swap s).port.cause = s.port.cause ∧
    (swap s).port.enable = s.port.enable ∧ (swap s).port.mode = s.port.mode ∧
    (swap s).port.take = s.port.take ∧ (swap s).port.expected = s.port.expected ∧
    (swap s).port.map = s.port.map ∧ (swap s).port.selection = s.port.selection ∧
    (swap s).port.snapshotNumber = s.port.snapshotNumber := by
  simp [swap]

/-- What `requestSwap` leaves alone. -/
@[simp] theorem requestSwap_keeps (s : State) :
    (requestSwap s).pending = s.pending ∧ (requestSwap s).phase = s.phase ∧
    (requestSwap s).rstn = s.rstn ∧ (requestSwap s).ticks = s.ticks ∧ (requestSwap s).seq = s.seq ∧
    (requestSwap s).law = s.law ∧ (requestSwap s).bus = s.bus ∧ (requestSwap s).sel = s.sel ∧
    (requestSwap s).wheels = s.wheels ∧ (requestSwap s).conv = s.conv ∧
    (requestSwap s).drive = s.drive ∧ (requestSwap s).faults = s.faults ∧
    (requestSwap s).port.mem = s.port.mem ∧ (requestSwap s).port.timer = s.port.timer ∧
    (requestSwap s).port.window = s.port.window ∧
    (requestSwap s).port.windowAge = s.port.windowAge ∧
    (requestSwap s).port.opensAtCompletion = s.port.opensAtCompletion ∧
    (requestSwap s).port.holdArmed = s.port.holdArmed ∧
    (requestSwap s).port.deferral = s.port.deferral ∧
    (requestSwap s).port.inProgress = s.port.inProgress ∧ (requestSwap s).port.held = s.port.held ∧
    (requestSwap s).port.adData = s.port.adData ∧ (requestSwap s).port.cause = s.port.cause ∧
    (requestSwap s).port.enable = s.port.enable ∧ (requestSwap s).port.mode = s.port.mode ∧
    (requestSwap s).port.take = s.port.take ∧ (requestSwap s).port.expected = s.port.expected ∧
    (requestSwap s).port.map = s.port.map ∧ (requestSwap s).port.selection = s.port.selection ∧
    (requestSwap s).port.snapshotNumber = s.port.snapshotNumber := by
  unfold requestSwap
  repeat' split
  all_goals simp

/-- What `enterHeld` leaves alone. -/
@[simp] theorem enterHeld_keeps (c : ModeCause) (s : State) :
    (enterHeld c s).pending = s.pending ∧ (enterHeld c s).phase = s.phase ∧
    (enterHeld c s).rstn = s.rstn ∧ (enterHeld c s).ticks = s.ticks ∧ (enterHeld c s).law = s.law ∧
    (enterHeld c s).bus = s.bus ∧ (enterHeld c s).sel = s.sel ∧ (enterHeld c s).wheels = s.wheels ∧
    (enterHeld c s).conv = s.conv ∧ (enterHeld c s).faults = s.faults ∧
    (enterHeld c s).port.mem = s.port.mem ∧ (enterHeld c s).port.timer = s.port.timer ∧
    (enterHeld c s).port.window = s.port.window ∧
    (enterHeld c s).port.windowAge = s.port.windowAge ∧
    (enterHeld c s).port.opensAtCompletion = s.port.opensAtCompletion ∧
    (enterHeld c s).port.holdArmed = s.port.holdArmed ∧
    (enterHeld c s).port.deferral = s.port.deferral ∧
    (enterHeld c s).port.inProgress = s.port.inProgress ∧ (enterHeld c s).port.held = s.port.held ∧
    (enterHeld c s).port.adData = s.port.adData ∧ (enterHeld c s).port.cause = s.port.cause ∧
    (enterHeld c s).port.enable = s.port.enable ∧ (enterHeld c s).port.mode = s.port.mode ∧
    (enterHeld c s).port.take = s.port.take ∧ (enterHeld c s).port.expected = s.port.expected ∧
    (enterHeld c s).port.map = s.port.map ∧ (enterHeld c s).port.selection = s.port.selection ∧
    (enterHeld c s).port.snapshotNumber = s.port.snapshotNumber := by
  simp [enterHeld]

/-- What `enterOff` leaves alone. -/
@[simp] theorem enterOff_keeps (c : ModeCause) (s : State) :
    (enterOff c s).pending = s.pending ∧ (enterOff c s).phase = s.phase ∧
    (enterOff c s).rstn = s.rstn ∧ (enterOff c s).ticks = s.ticks ∧ (enterOff c s).law = s.law ∧
    (enterOff c s).tables = s.tables ∧ (enterOff c s).bus = s.bus ∧ (enterOff c s).sel = s.sel ∧
    (enterOff c s).wheels = s.wheels ∧ (enterOff c s).conv = s.conv ∧
    (enterOff c s).faults = s.faults ∧ (enterOff c s).port.mem = s.port.mem ∧
    (enterOff c s).port.timer = s.port.timer ∧ (enterOff c s).port.window = s.port.window ∧
    (enterOff c s).port.windowAge = s.port.windowAge ∧
    (enterOff c s).port.opensAtCompletion = s.port.opensAtCompletion ∧
    (enterOff c s).port.holdArmed = s.port.holdArmed ∧
    (enterOff c s).port.deferral = s.port.deferral ∧
    (enterOff c s).port.inProgress = s.port.inProgress ∧ (enterOff c s).port.held = s.port.held ∧
    (enterOff c s).port.adData = s.port.adData ∧ (enterOff c s).port.cause = s.port.cause ∧
    (enterOff c s).port.enable = s.port.enable ∧ (enterOff c s).port.mode = s.port.mode ∧
    (enterOff c s).port.take = s.port.take ∧ (enterOff c s).port.expected = s.port.expected ∧
    (enterOff c s).port.map = s.port.map ∧ (enterOff c s).port.selection = s.port.selection ∧
    (enterOff c s).port.snapshotNumber = s.port.snapshotNumber := by
  simp [enterOff]

/-- What `enterEngaging` leaves alone. -/
@[simp] theorem enterEngaging_keeps (c : ModeCause) (s : State) :
    (enterEngaging c s).pending = s.pending ∧ (enterEngaging c s).phase = s.phase ∧
    (enterEngaging c s).rstn = s.rstn ∧ (enterEngaging c s).ticks = s.ticks ∧
    (enterEngaging c s).law = s.law ∧ (enterEngaging c s).bus = s.bus ∧
    (enterEngaging c s).sel = s.sel ∧ (enterEngaging c s).wheels = s.wheels ∧
    (enterEngaging c s).conv = s.conv ∧ (enterEngaging c s).faults = s.faults ∧
    (enterEngaging c s).port.mem = s.port.mem ∧ (enterEngaging c s).port.timer = s.port.timer ∧
    (enterEngaging c s).port.window = s.port.window ∧
    (enterEngaging c s).port.windowAge = s.port.windowAge ∧
    (enterEngaging c s).port.opensAtCompletion = s.port.opensAtCompletion ∧
    (enterEngaging c s).port.holdArmed = s.port.holdArmed ∧
    (enterEngaging c s).port.deferral = s.port.deferral ∧
    (enterEngaging c s).port.inProgress = s.port.inProgress ∧
    (enterEngaging c s).port.held = s.port.held ∧ (enterEngaging c s).port.adData = s.port.adData ∧
    (enterEngaging c s).port.cause = s.port.cause ∧
    (enterEngaging c s).port.enable = s.port.enable ∧ (enterEngaging c s).port.mode = s.port.mode ∧
    (enterEngaging c s).port.take = s.port.take ∧
    (enterEngaging c s).port.expected = s.port.expected ∧
    (enterEngaging c s).port.map = s.port.map ∧
    (enterEngaging c s).port.selection = s.port.selection ∧
    (enterEngaging c s).port.snapshotNumber = s.port.snapshotNumber := by
  unfold enterEngaging
  dsimp only
  repeat' split
  all_goals simp

/-- What `enterCapturing` leaves alone. -/
@[simp] theorem enterCapturing_keeps (c : ModeCause) (s : State) :
    (enterCapturing c s).pending = s.pending ∧ (enterCapturing c s).phase = s.phase ∧
    (enterCapturing c s).rstn = s.rstn ∧ (enterCapturing c s).ticks = s.ticks ∧
    (enterCapturing c s).law = s.law ∧ (enterCapturing c s).tables = s.tables ∧
    (enterCapturing c s).bus = s.bus ∧ (enterCapturing c s).sel = s.sel ∧
    (enterCapturing c s).wheels = s.wheels ∧ (enterCapturing c s).conv = s.conv ∧
    (enterCapturing c s).faults = s.faults ∧ (enterCapturing c s).port.mem = s.port.mem ∧
    (enterCapturing c s).port.timer = s.port.timer ∧
    (enterCapturing c s).port.window = s.port.window ∧
    (enterCapturing c s).port.windowAge = s.port.windowAge ∧
    (enterCapturing c s).port.opensAtCompletion = s.port.opensAtCompletion ∧
    (enterCapturing c s).port.holdArmed = s.port.holdArmed ∧
    (enterCapturing c s).port.deferral = s.port.deferral ∧
    (enterCapturing c s).port.inProgress = s.port.inProgress ∧
    (enterCapturing c s).port.held = s.port.held ∧
    (enterCapturing c s).port.adData = s.port.adData ∧
    (enterCapturing c s).port.cause = s.port.cause ∧
    (enterCapturing c s).port.enable = s.port.enable ∧
    (enterCapturing c s).port.mode = s.port.mode ∧ (enterCapturing c s).port.take = s.port.take ∧
    (enterCapturing c s).port.expected = s.port.expected ∧
    (enterCapturing c s).port.map = s.port.map ∧
    (enterCapturing c s).port.selection = s.port.selection ∧
    (enterCapturing c s).port.snapshotNumber = s.port.snapshotNumber := by
  simp [enterCapturing]

/-- What `enterActive` leaves alone. -/
@[simp] theorem enterActive_keeps (c : ModeCause) (s : State) :
    (enterActive c s).pending = s.pending ∧ (enterActive c s).phase = s.phase ∧
    (enterActive c s).rstn = s.rstn ∧ (enterActive c s).ticks = s.ticks ∧
    (enterActive c s).law = s.law ∧ (enterActive c s).tables = s.tables ∧
    (enterActive c s).bus = s.bus ∧ (enterActive c s).sel = s.sel ∧
    (enterActive c s).wheels = s.wheels ∧ (enterActive c s).conv = s.conv ∧
    (enterActive c s).faults = s.faults ∧ (enterActive c s).port.mem = s.port.mem ∧
    (enterActive c s).port.timer = s.port.timer ∧ (enterActive c s).port.window = s.port.window ∧
    (enterActive c s).port.windowAge = s.port.windowAge ∧
    (enterActive c s).port.opensAtCompletion = s.port.opensAtCompletion ∧
    (enterActive c s).port.holdArmed = s.port.holdArmed ∧
    (enterActive c s).port.deferral = s.port.deferral ∧
    (enterActive c s).port.inProgress = s.port.inProgress ∧
    (enterActive c s).port.held = s.port.held ∧ (enterActive c s).port.adData = s.port.adData ∧
    (enterActive c s).port.cause = s.port.cause ∧ (enterActive c s).port.enable = s.port.enable ∧
    (enterActive c s).port.mode = s.port.mode ∧ (enterActive c s).port.take = s.port.take ∧
    (enterActive c s).port.expected = s.port.expected ∧ (enterActive c s).port.map = s.port.map ∧
    (enterActive c s).port.selection = s.port.selection ∧
    (enterActive c s).port.snapshotNumber = s.port.snapshotNumber := by
  simp [enterActive]

/-- What `enterSafe` leaves alone. -/
@[simp] theorem enterSafe_keeps (k : FaultKind) (n : Nat) (s : State) :
    (enterSafe k n s).pending = s.pending ∧ (enterSafe k n s).phase = s.phase ∧
    (enterSafe k n s).rstn = s.rstn ∧ (enterSafe k n s).ticks = s.ticks ∧
    (enterSafe k n s).law = s.law ∧ (enterSafe k n s).tables = s.tables ∧
    (enterSafe k n s).bus = s.bus ∧ (enterSafe k n s).sel = s.sel ∧
    (enterSafe k n s).wheels = s.wheels ∧ (enterSafe k n s).conv = s.conv ∧
    (enterSafe k n s).port.mem = s.port.mem ∧ (enterSafe k n s).port.timer = s.port.timer ∧
    (enterSafe k n s).port.window = s.port.window ∧
    (enterSafe k n s).port.windowAge = s.port.windowAge ∧
    (enterSafe k n s).port.opensAtCompletion = s.port.opensAtCompletion ∧
    (enterSafe k n s).port.holdArmed = s.port.holdArmed ∧
    (enterSafe k n s).port.deferral = s.port.deferral ∧
    (enterSafe k n s).port.inProgress = s.port.inProgress ∧
    (enterSafe k n s).port.held = s.port.held ∧ (enterSafe k n s).port.adData = s.port.adData ∧
    (enterSafe k n s).port.cause = s.port.cause ∧ (enterSafe k n s).port.enable = s.port.enable ∧
    (enterSafe k n s).port.mode = s.port.mode ∧ (enterSafe k n s).port.take = s.port.take ∧
    (enterSafe k n s).port.expected = s.port.expected ∧ (enterSafe k n s).port.map = s.port.map ∧
    (enterSafe k n s).port.selection = s.port.selection ∧
    (enterSafe k n s).port.snapshotNumber = s.port.snapshotNumber := by
  simp [enterSafe]

/-- What `safeRequest` leaves alone. -/
@[simp] theorem safeRequest_keeps (k : FaultKind) (n : Nat) (s : State) :
    (safeRequest k n s).pending = s.pending ∧ (safeRequest k n s).phase = s.phase ∧
    (safeRequest k n s).rstn = s.rstn ∧ (safeRequest k n s).ticks = s.ticks ∧
    (safeRequest k n s).law = s.law ∧ (safeRequest k n s).tables = s.tables ∧
    (safeRequest k n s).bus = s.bus ∧ (safeRequest k n s).sel = s.sel ∧
    (safeRequest k n s).wheels = s.wheels ∧ (safeRequest k n s).conv = s.conv ∧
    (safeRequest k n s).port.mem = s.port.mem ∧ (safeRequest k n s).port.timer = s.port.timer ∧
    (safeRequest k n s).port.window = s.port.window ∧
    (safeRequest k n s).port.windowAge = s.port.windowAge ∧
    (safeRequest k n s).port.opensAtCompletion = s.port.opensAtCompletion ∧
    (safeRequest k n s).port.holdArmed = s.port.holdArmed ∧
    (safeRequest k n s).port.deferral = s.port.deferral ∧
    (safeRequest k n s).port.inProgress = s.port.inProgress ∧
    (safeRequest k n s).port.held = s.port.held ∧ (safeRequest k n s).port.adData = s.port.adData ∧
    (safeRequest k n s).port.cause = s.port.cause ∧
    (safeRequest k n s).port.enable = s.port.enable ∧ (safeRequest k n s).port.mode = s.port.mode ∧
    (safeRequest k n s).port.take = s.port.take ∧
    (safeRequest k n s).port.expected = s.port.expected ∧
    (safeRequest k n s).port.map = s.port.map ∧
    (safeRequest k n s).port.selection = s.port.selection ∧
    (safeRequest k n s).port.snapshotNumber = s.port.snapshotNumber := by
  unfold safeRequest
  repeat' split
  all_goals simp

/-- What `stageFault` leaves alone. -/
@[simp] theorem stageFault_keeps (k : FaultKind) (r : FaultRecord) (s : State) :
    (stageFault k r s).pending = s.pending ∧ (stageFault k r s).phase = s.phase ∧
    (stageFault k r s).rstn = s.rstn ∧ (stageFault k r s).ticks = s.ticks ∧
    (stageFault k r s).seq = s.seq ∧ (stageFault k r s).law = s.law ∧
    (stageFault k r s).tables = s.tables ∧ (stageFault k r s).bus = s.bus ∧
    (stageFault k r s).sel = s.sel ∧ (stageFault k r s).wheels = s.wheels ∧
    (stageFault k r s).conv = s.conv ∧ (stageFault k r s).drive = s.drive ∧
    (stageFault k r s).faults = s.faults ∧ (stageFault k r s).port.mem = s.port.mem ∧
    (stageFault k r s).port.timer = s.port.timer ∧ (stageFault k r s).port.window = s.port.window ∧
    (stageFault k r s).port.windowAge = s.port.windowAge ∧
    (stageFault k r s).port.opensAtCompletion = s.port.opensAtCompletion ∧
    (stageFault k r s).port.holdArmed = s.port.holdArmed ∧
    (stageFault k r s).port.deferral = s.port.deferral ∧
    (stageFault k r s).port.inProgress = s.port.inProgress ∧
    (stageFault k r s).port.held = s.port.held ∧ (stageFault k r s).port.adData = s.port.adData ∧
    (stageFault k r s).port.cause = s.port.cause ∧ (stageFault k r s).port.enable = s.port.enable ∧
    (stageFault k r s).port.mode = s.port.mode ∧ (stageFault k r s).port.take = s.port.take ∧
    (stageFault k r s).port.expected = s.port.expected ∧ (stageFault k r s).port.map = s.port.map ∧
    (stageFault k r s).port.selection = s.port.selection ∧
    (stageFault k r s).port.snapshotNumber = s.port.snapshotNumber := by
  simp [stageFault]

/-- What `assertLine` leaves alone. -/
@[simp] theorem assertLine_keeps (was : Bool) (r : Reaction) (s : State) :
    (assertLine was r s).pending = s.pending ∧ (assertLine was r s).phase = s.phase ∧
    (assertLine was r s).rstn = s.rstn ∧ (assertLine was r s).ticks = s.ticks ∧
    (assertLine was r s).seq = s.seq ∧ (assertLine was r s).law = s.law ∧
    (assertLine was r s).tables = s.tables ∧ (assertLine was r s).bus = s.bus ∧
    (assertLine was r s).sel = s.sel ∧ (assertLine was r s).wheels = s.wheels ∧
    (assertLine was r s).conv = s.conv ∧ (assertLine was r s).drive = s.drive ∧
    (assertLine was r s).port.mem = s.port.mem ∧ (assertLine was r s).port.timer = s.port.timer ∧
    (assertLine was r s).port.window = s.port.window ∧
    (assertLine was r s).port.windowAge = s.port.windowAge ∧
    (assertLine was r s).port.opensAtCompletion = s.port.opensAtCompletion ∧
    (assertLine was r s).port.holdArmed = s.port.holdArmed ∧
    (assertLine was r s).port.deferral = s.port.deferral ∧
    (assertLine was r s).port.inProgress = s.port.inProgress ∧
    (assertLine was r s).port.held = s.port.held ∧
    (assertLine was r s).port.adData = s.port.adData ∧
    (assertLine was r s).port.enable = s.port.enable ∧
    (assertLine was r s).port.mode = s.port.mode ∧ (assertLine was r s).port.take = s.port.take ∧
    (assertLine was r s).port.expected = s.port.expected ∧
    (assertLine was r s).port.map = s.port.map ∧
    (assertLine was r s).port.selection = s.port.selection ∧
    (assertLine was r s).port.snapshotNumber = s.port.snapshotNumber := by
  unfold assertLine
  repeat' split
  all_goals simp

/-- What `raise` leaves alone. -/
@[simp] theorem raise_keeps (k : FaultKind) (n : Nat) (s : State) :
    (raise k n s).pending = s.pending ∧ (raise k n s).phase = s.phase ∧
    (raise k n s).rstn = s.rstn ∧ (raise k n s).ticks = s.ticks ∧ (raise k n s).law = s.law ∧
    (raise k n s).tables = s.tables ∧ (raise k n s).bus = s.bus ∧ (raise k n s).sel = s.sel ∧
    (raise k n s).wheels = s.wheels ∧ (raise k n s).conv = s.conv ∧
    (raise k n s).port.mem = s.port.mem ∧ (raise k n s).port.timer = s.port.timer ∧
    (raise k n s).port.window = s.port.window ∧ (raise k n s).port.windowAge = s.port.windowAge ∧
    (raise k n s).port.opensAtCompletion = s.port.opensAtCompletion ∧
    (raise k n s).port.holdArmed = s.port.holdArmed ∧
    (raise k n s).port.deferral = s.port.deferral ∧
    (raise k n s).port.inProgress = s.port.inProgress ∧ (raise k n s).port.held = s.port.held ∧
    (raise k n s).port.adData = s.port.adData ∧ (raise k n s).port.enable = s.port.enable ∧
    (raise k n s).port.mode = s.port.mode ∧ (raise k n s).port.take = s.port.take ∧
    (raise k n s).port.expected = s.port.expected ∧ (raise k n s).port.map = s.port.map ∧
    (raise k n s).port.selection = s.port.selection ∧
    (raise k n s).port.snapshotNumber = s.port.snapshotNumber := by
  unfold raise
  dsimp only
  repeat' split
  all_goals simp

/-- What `endFault` leaves alone. -/
@[simp] theorem endFault_keeps (k : FaultKind) (s : State) :
    (endFault k s).pending = s.pending ∧ (endFault k s).phase = s.phase ∧
    (endFault k s).rstn = s.rstn ∧ (endFault k s).ticks = s.ticks ∧ (endFault k s).seq = s.seq ∧
    (endFault k s).law = s.law ∧ (endFault k s).tables = s.tables ∧ (endFault k s).bus = s.bus ∧
    (endFault k s).sel = s.sel ∧ (endFault k s).wheels = s.wheels ∧ (endFault k s).conv = s.conv ∧
    (endFault k s).drive = s.drive ∧ (endFault k s).port.mem = s.port.mem ∧
    (endFault k s).port.timer = s.port.timer ∧ (endFault k s).port.window = s.port.window ∧
    (endFault k s).port.windowAge = s.port.windowAge ∧
    (endFault k s).port.opensAtCompletion = s.port.opensAtCompletion ∧
    (endFault k s).port.holdArmed = s.port.holdArmed ∧
    (endFault k s).port.deferral = s.port.deferral ∧
    (endFault k s).port.inProgress = s.port.inProgress ∧ (endFault k s).port.held = s.port.held ∧
    (endFault k s).port.adData = s.port.adData ∧ (endFault k s).port.cause = s.port.cause ∧
    (endFault k s).port.enable = s.port.enable ∧ (endFault k s).port.mode = s.port.mode ∧
    (endFault k s).port.take = s.port.take ∧ (endFault k s).port.expected = s.port.expected ∧
    (endFault k s).port.map = s.port.map ∧ (endFault k s).port.selection = s.port.selection ∧
    (endFault k s).port.snapshotNumber = s.port.snapshotNumber := by
  unfold endFault
  dsimp only
  repeat' split
  all_goals simp

/-- What `escalate` leaves alone. -/
@[simp] theorem escalate_keeps (k : FaultKind) (s : State) :
    (escalate k s).pending = s.pending ∧ (escalate k s).phase = s.phase ∧
    (escalate k s).rstn = s.rstn ∧ (escalate k s).ticks = s.ticks ∧ (escalate k s).law = s.law ∧
    (escalate k s).tables = s.tables ∧ (escalate k s).bus = s.bus ∧ (escalate k s).sel = s.sel ∧
    (escalate k s).wheels = s.wheels ∧ (escalate k s).conv = s.conv ∧
    (escalate k s).port.mem = s.port.mem ∧ (escalate k s).port.timer = s.port.timer ∧
    (escalate k s).port.window = s.port.window ∧ (escalate k s).port.windowAge = s.port.windowAge ∧
    (escalate k s).port.opensAtCompletion = s.port.opensAtCompletion ∧
    (escalate k s).port.holdArmed = s.port.holdArmed ∧
    (escalate k s).port.deferral = s.port.deferral ∧
    (escalate k s).port.inProgress = s.port.inProgress ∧ (escalate k s).port.held = s.port.held ∧
    (escalate k s).port.adData = s.port.adData ∧ (escalate k s).port.cause = s.port.cause ∧
    (escalate k s).port.enable = s.port.enable ∧ (escalate k s).port.mode = s.port.mode ∧
    (escalate k s).port.take = s.port.take ∧ (escalate k s).port.expected = s.port.expected ∧
    (escalate k s).port.map = s.port.map ∧ (escalate k s).port.selection = s.port.selection ∧
    (escalate k s).port.snapshotNumber = s.port.snapshotNumber := by
  unfold escalate
  dsimp only
  repeat' split
  all_goals simp

/-- What `notifyClear` leaves alone. -/
@[simp] theorem notifyClear_keeps (k : FaultKind) (s : State) :
    (notifyClear k s).pending = s.pending ∧ (notifyClear k s).phase = s.phase ∧
    (notifyClear k s).rstn = s.rstn ∧ (notifyClear k s).ticks = s.ticks ∧
    (notifyClear k s).seq = s.seq ∧ (notifyClear k s).law = s.law ∧
    (notifyClear k s).tables = s.tables ∧ (notifyClear k s).bus = s.bus ∧
    (notifyClear k s).sel = s.sel ∧ (notifyClear k s).wheels = s.wheels ∧
    (notifyClear k s).conv = s.conv ∧ (notifyClear k s).faults = s.faults ∧
    (notifyClear k s).port = s.port := by
  unfold notifyClear
  repeat' split
  all_goals simp

/-- What `clearKind` leaves alone. -/
@[simp] theorem clearKind_keeps (k : FaultKind) (s : State) :
    (clearKind k s).pending = s.pending ∧ (clearKind k s).phase = s.phase ∧
    (clearKind k s).rstn = s.rstn ∧ (clearKind k s).ticks = s.ticks ∧ (clearKind k s).seq = s.seq ∧
    (clearKind k s).law = s.law ∧ (clearKind k s).tables = s.tables ∧ (clearKind k s).bus = s.bus ∧
    (clearKind k s).sel = s.sel ∧ (clearKind k s).wheels = s.wheels ∧
    (clearKind k s).conv = s.conv ∧ (clearKind k s).port.mem = s.port.mem ∧
    (clearKind k s).port.timer = s.port.timer ∧ (clearKind k s).port.window = s.port.window ∧
    (clearKind k s).port.windowAge = s.port.windowAge ∧
    (clearKind k s).port.opensAtCompletion = s.port.opensAtCompletion ∧
    (clearKind k s).port.holdArmed = s.port.holdArmed ∧
    (clearKind k s).port.deferral = s.port.deferral ∧
    (clearKind k s).port.inProgress = s.port.inProgress ∧ (clearKind k s).port.held = s.port.held ∧
    (clearKind k s).port.adData = s.port.adData ∧ (clearKind k s).port.cause = s.port.cause ∧
    (clearKind k s).port.enable = s.port.enable ∧ (clearKind k s).port.mode = s.port.mode ∧
    (clearKind k s).port.take = s.port.take ∧ (clearKind k s).port.expected = s.port.expected ∧
    (clearKind k s).port.map = s.port.map ∧ (clearKind k s).port.selection = s.port.selection ∧
    (clearKind k s).port.snapshotNumber = s.port.snapshotNumber := by
  simp [clearKind]

end Sys2Proof.Machine
end

