-- ==== Sys2Proof/Laws/ControlFrames.lean ====
section
/-! SUPPORT. What the selector's and the tracker's stages, a computation, the cycle end and the lock drive leave
alone. -/

namespace Sys2Proof.Machine

/-- What `traceSample` leaves alone. -/
@[simp] theorem traceSample_keeps (s : State) :
    (traceSample s).pending = s.pending ∧ (traceSample s).phase = s.phase ∧
    (traceSample s).rstn = s.rstn ∧ (traceSample s).ticks = s.ticks ∧ (traceSample s).seq = s.seq ∧
    (traceSample s).law = s.law ∧ (traceSample s).tables = s.tables ∧ (traceSample s).bus = s.bus ∧
    (traceSample s).sel = s.sel ∧ (traceSample s).wheels = s.wheels ∧
    (traceSample s).conv = s.conv ∧ (traceSample s).drive = s.drive ∧
    (traceSample s).faults = s.faults ∧ (traceSample s).port.mem = s.port.mem ∧
    (traceSample s).port.timer = s.port.timer ∧ (traceSample s).port.window = s.port.window ∧
    (traceSample s).port.windowAge = s.port.windowAge ∧
    (traceSample s).port.opensAtCompletion = s.port.opensAtCompletion ∧
    (traceSample s).port.holdArmed = s.port.holdArmed ∧
    (traceSample s).port.deferral = s.port.deferral ∧
    (traceSample s).port.inProgress = s.port.inProgress ∧ (traceSample s).port.held = s.port.held ∧
    (traceSample s).port.adData = s.port.adData ∧ (traceSample s).port.cause = s.port.cause ∧
    (traceSample s).port.enable = s.port.enable ∧ (traceSample s).port.mode = s.port.mode ∧
    (traceSample s).port.take = s.port.take ∧ (traceSample s).port.expected = s.port.expected ∧
    (traceSample s).port.map = s.port.map ∧
    (traceSample s).port.snapshotNumber = s.port.snapshotNumber := by
  unfold traceSample
  dsimp only
  repeat' split
  all_goals simp

/-- What `endCondition` leaves alone. -/
@[simp] theorem endCondition_keeps (k : Option FaultKind) (s : State) :
    (endCondition k s).pending = s.pending ∧ (endCondition k s).phase = s.phase ∧
    (endCondition k s).rstn = s.rstn ∧ (endCondition k s).ticks = s.ticks ∧
    (endCondition k s).seq = s.seq ∧ (endCondition k s).law = s.law ∧
    (endCondition k s).tables = s.tables ∧ (endCondition k s).bus = s.bus ∧
    (endCondition k s).sel = s.sel ∧ (endCondition k s).wheels = s.wheels ∧
    (endCondition k s).conv = s.conv ∧ (endCondition k s).drive = s.drive ∧
    (endCondition k s).port.mem = s.port.mem ∧ (endCondition k s).port.timer = s.port.timer ∧
    (endCondition k s).port.window = s.port.window ∧
    (endCondition k s).port.windowAge = s.port.windowAge ∧
    (endCondition k s).port.opensAtCompletion = s.port.opensAtCompletion ∧
    (endCondition k s).port.holdArmed = s.port.holdArmed ∧
    (endCondition k s).port.deferral = s.port.deferral ∧
    (endCondition k s).port.inProgress = s.port.inProgress ∧
    (endCondition k s).port.held = s.port.held ∧ (endCondition k s).port.adData = s.port.adData ∧
    (endCondition k s).port.cause = s.port.cause ∧ (endCondition k s).port.enable = s.port.enable ∧
    (endCondition k s).port.mode = s.port.mode ∧ (endCondition k s).port.take = s.port.take ∧
    (endCondition k s).port.expected = s.port.expected ∧ (endCondition k s).port.map = s.port.map ∧
    (endCondition k s).port.selection = s.port.selection ∧
    (endCondition k s).port.snapshotNumber = s.port.snapshotNumber := by
  unfold endCondition
  repeat' split
  all_goals simp

/-- What `raiseCondition` leaves alone. -/
@[simp] theorem raiseCondition_keeps (k : Option FaultKind) (s : State) :
    (raiseCondition k s).pending = s.pending ∧ (raiseCondition k s).phase = s.phase ∧
    (raiseCondition k s).rstn = s.rstn ∧ (raiseCondition k s).ticks = s.ticks ∧
    (raiseCondition k s).law = s.law ∧ (raiseCondition k s).tables = s.tables ∧
    (raiseCondition k s).bus = s.bus ∧ (raiseCondition k s).sel = s.sel ∧
    (raiseCondition k s).wheels = s.wheels ∧ (raiseCondition k s).conv = s.conv ∧
    (raiseCondition k s).port.mem = s.port.mem ∧ (raiseCondition k s).port.timer = s.port.timer ∧
    (raiseCondition k s).port.window = s.port.window ∧
    (raiseCondition k s).port.windowAge = s.port.windowAge ∧
    (raiseCondition k s).port.opensAtCompletion = s.port.opensAtCompletion ∧
    (raiseCondition k s).port.holdArmed = s.port.holdArmed ∧
    (raiseCondition k s).port.deferral = s.port.deferral ∧
    (raiseCondition k s).port.inProgress = s.port.inProgress ∧
    (raiseCondition k s).port.held = s.port.held ∧
    (raiseCondition k s).port.adData = s.port.adData ∧
    (raiseCondition k s).port.enable = s.port.enable ∧
    (raiseCondition k s).port.mode = s.port.mode ∧ (raiseCondition k s).port.take = s.port.take ∧
    (raiseCondition k s).port.expected = s.port.expected ∧
    (raiseCondition k s).port.map = s.port.map ∧
    (raiseCondition k s).port.selection = s.port.selection ∧
    (raiseCondition k s).port.snapshotNumber = s.port.snapshotNumber := by
  unfold raiseCondition
  repeat' split
  all_goals simp

/-- What `updateCondition` leaves alone. -/
@[simp] theorem updateCondition_keeps (m : Mode) (q : Quantity) (s : State) :
    (updateCondition m q s).pending = s.pending ∧ (updateCondition m q s).phase = s.phase ∧
    (updateCondition m q s).rstn = s.rstn ∧ (updateCondition m q s).ticks = s.ticks ∧
    (updateCondition m q s).law = s.law ∧ (updateCondition m q s).tables = s.tables ∧
    (updateCondition m q s).bus = s.bus ∧ (updateCondition m q s).wheels = s.wheels ∧
    (updateCondition m q s).conv = s.conv ∧ (updateCondition m q s).port.mem = s.port.mem ∧
    (updateCondition m q s).port.timer = s.port.timer ∧
    (updateCondition m q s).port.window = s.port.window ∧
    (updateCondition m q s).port.windowAge = s.port.windowAge ∧
    (updateCondition m q s).port.opensAtCompletion = s.port.opensAtCompletion ∧
    (updateCondition m q s).port.holdArmed = s.port.holdArmed ∧
    (updateCondition m q s).port.deferral = s.port.deferral ∧
    (updateCondition m q s).port.inProgress = s.port.inProgress ∧
    (updateCondition m q s).port.held = s.port.held ∧
    (updateCondition m q s).port.adData = s.port.adData ∧
    (updateCondition m q s).port.enable = s.port.enable ∧
    (updateCondition m q s).port.mode = s.port.mode ∧
    (updateCondition m q s).port.take = s.port.take ∧
    (updateCondition m q s).port.expected = s.port.expected ∧
    (updateCondition m q s).port.map = s.port.map ∧
    (updateCondition m q s).port.selection = s.port.selection ∧
    (updateCondition m q s).port.snapshotNumber = s.port.snapshotNumber := by
  unfold updateCondition
  dsimp only
  repeat' split
  all_goals simp

/-- What `reportSource` leaves alone. -/
@[simp] theorem reportSource_keeps (q : Quantity) (a b : Source) (s : State) :
    (reportSource q a b s).pending = s.pending ∧ (reportSource q a b s).phase = s.phase ∧
    (reportSource q a b s).rstn = s.rstn ∧ (reportSource q a b s).ticks = s.ticks ∧
    (reportSource q a b s).seq = s.seq ∧ (reportSource q a b s).law = s.law ∧
    (reportSource q a b s).tables = s.tables ∧ (reportSource q a b s).bus = s.bus ∧
    (reportSource q a b s).sel = s.sel ∧ (reportSource q a b s).wheels = s.wheels ∧
    (reportSource q a b s).conv = s.conv ∧ (reportSource q a b s).drive = s.drive ∧
    (reportSource q a b s).faults = s.faults ∧ (reportSource q a b s).port.mem = s.port.mem ∧
    (reportSource q a b s).port.timer = s.port.timer ∧
    (reportSource q a b s).port.window = s.port.window ∧
    (reportSource q a b s).port.windowAge = s.port.windowAge ∧
    (reportSource q a b s).port.opensAtCompletion = s.port.opensAtCompletion ∧
    (reportSource q a b s).port.holdArmed = s.port.holdArmed ∧
    (reportSource q a b s).port.deferral = s.port.deferral ∧
    (reportSource q a b s).port.inProgress = s.port.inProgress ∧
    (reportSource q a b s).port.held = s.port.held ∧
    (reportSource q a b s).port.adData = s.port.adData ∧
    (reportSource q a b s).port.cause = s.port.cause ∧
    (reportSource q a b s).port.enable = s.port.enable ∧
    (reportSource q a b s).port.mode = s.port.mode ∧
    (reportSource q a b s).port.take = s.port.take ∧
    (reportSource q a b s).port.expected = s.port.expected ∧
    (reportSource q a b s).port.map = s.port.map ∧
    (reportSource q a b s).port.selection = s.port.selection ∧
    (reportSource q a b s).port.snapshotNumber = s.port.snapshotNumber := by
  unfold reportSource
  repeat' split
  all_goals simp

/-- What `resolve` leaves alone. -/
@[simp] theorem resolve_keeps (m : Mode) (q : Quantity) (phi : Int) (s : State) :
    ((resolve m q phi s).1).pending = s.pending ∧ ((resolve m q phi s).1).phase = s.phase ∧
    ((resolve m q phi s).1).rstn = s.rstn ∧ ((resolve m q phi s).1).ticks = s.ticks ∧
    ((resolve m q phi s).1).law = s.law ∧ ((resolve m q phi s).1).tables = s.tables ∧
    ((resolve m q phi s).1).bus = s.bus ∧ ((resolve m q phi s).1).wheels = s.wheels ∧
    ((resolve m q phi s).1).conv = s.conv ∧ ((resolve m q phi s).1).port.mem = s.port.mem ∧
    ((resolve m q phi s).1).port.timer = s.port.timer ∧
    ((resolve m q phi s).1).port.window = s.port.window ∧
    ((resolve m q phi s).1).port.windowAge = s.port.windowAge ∧
    ((resolve m q phi s).1).port.opensAtCompletion = s.port.opensAtCompletion ∧
    ((resolve m q phi s).1).port.holdArmed = s.port.holdArmed ∧
    ((resolve m q phi s).1).port.deferral = s.port.deferral ∧
    ((resolve m q phi s).1).port.inProgress = s.port.inProgress ∧
    ((resolve m q phi s).1).port.held = s.port.held ∧
    ((resolve m q phi s).1).port.adData = s.port.adData ∧
    ((resolve m q phi s).1).port.enable = s.port.enable ∧
    ((resolve m q phi s).1).port.mode = s.port.mode ∧
    ((resolve m q phi s).1).port.take = s.port.take ∧
    ((resolve m q phi s).1).port.expected = s.port.expected ∧
    ((resolve m q phi s).1).port.map = s.port.map ∧
    ((resolve m q phi s).1).port.selection = s.port.selection ∧
    ((resolve m q phi s).1).port.snapshotNumber = s.port.snapshotNumber := by
  simp [resolve]

/-- What `selectorStage` leaves alone. -/
@[simp] theorem selectorStage_keeps (m : Mode) (s : State) :
    ((selectorStage m s).1).pending = s.pending ∧ ((selectorStage m s).1).phase = s.phase ∧
    ((selectorStage m s).1).rstn = s.rstn ∧ ((selectorStage m s).1).ticks = s.ticks ∧
    ((selectorStage m s).1).law = s.law ∧ ((selectorStage m s).1).tables = s.tables ∧
    ((selectorStage m s).1).bus = s.bus ∧ ((selectorStage m s).1).wheels = s.wheels ∧
    ((selectorStage m s).1).conv = s.conv ∧ ((selectorStage m s).1).port.mem = s.port.mem ∧
    ((selectorStage m s).1).port.timer = s.port.timer ∧
    ((selectorStage m s).1).port.window = s.port.window ∧
    ((selectorStage m s).1).port.windowAge = s.port.windowAge ∧
    ((selectorStage m s).1).port.opensAtCompletion = s.port.opensAtCompletion ∧
    ((selectorStage m s).1).port.holdArmed = s.port.holdArmed ∧
    ((selectorStage m s).1).port.deferral = s.port.deferral ∧
    ((selectorStage m s).1).port.inProgress = s.port.inProgress ∧
    ((selectorStage m s).1).port.held = s.port.held ∧
    ((selectorStage m s).1).port.adData = s.port.adData ∧
    ((selectorStage m s).1).port.enable = s.port.enable ∧
    ((selectorStage m s).1).port.mode = s.port.mode ∧
    ((selectorStage m s).1).port.take = s.port.take ∧
    ((selectorStage m s).1).port.expected = s.port.expected ∧
    ((selectorStage m s).1).port.map = s.port.map ∧
    ((selectorStage m s).1).port.selection = s.port.selection ∧
    ((selectorStage m s).1).port.snapshotNumber = s.port.snapshotNumber := by
  simp [selectorStage]

/-- What `updateSpeedLost` leaves alone. -/
@[simp] theorem updateSpeedLost_keeps (v : Bool) (s : State) :
    (updateSpeedLost v s).pending = s.pending ∧ (updateSpeedLost v s).phase = s.phase ∧
    (updateSpeedLost v s).rstn = s.rstn ∧ (updateSpeedLost v s).ticks = s.ticks ∧
    (updateSpeedLost v s).law = s.law ∧ (updateSpeedLost v s).tables = s.tables ∧
    (updateSpeedLost v s).bus = s.bus ∧ (updateSpeedLost v s).sel = s.sel ∧
    (updateSpeedLost v s).conv = s.conv ∧ (updateSpeedLost v s).port.mem = s.port.mem ∧
    (updateSpeedLost v s).port.timer = s.port.timer ∧
    (updateSpeedLost v s).port.window = s.port.window ∧
    (updateSpeedLost v s).port.windowAge = s.port.windowAge ∧
    (updateSpeedLost v s).port.opensAtCompletion = s.port.opensAtCompletion ∧
    (updateSpeedLost v s).port.holdArmed = s.port.holdArmed ∧
    (updateSpeedLost v s).port.deferral = s.port.deferral ∧
    (updateSpeedLost v s).port.inProgress = s.port.inProgress ∧
    (updateSpeedLost v s).port.held = s.port.held ∧
    (updateSpeedLost v s).port.adData = s.port.adData ∧
    (updateSpeedLost v s).port.enable = s.port.enable ∧
    (updateSpeedLost v s).port.mode = s.port.mode ∧ (updateSpeedLost v s).port.take = s.port.take ∧
    (updateSpeedLost v s).port.expected = s.port.expected ∧
    (updateSpeedLost v s).port.map = s.port.map ∧
    (updateSpeedLost v s).port.selection = s.port.selection ∧
    (updateSpeedLost v s).port.snapshotNumber = s.port.snapshotNumber := by
  unfold updateSpeedLost
  repeat' split
  all_goals simp

/-- What `updateWheelDegraded` leaves alone. -/
@[simp] theorem updateWheelDegraded_keeps (n k : Nat) (s : State) :
    (updateWheelDegraded n k s).pending = s.pending ∧ (updateWheelDegraded n k s).phase = s.phase ∧
    (updateWheelDegraded n k s).rstn = s.rstn ∧ (updateWheelDegraded n k s).ticks = s.ticks ∧
    (updateWheelDegraded n k s).law = s.law ∧ (updateWheelDegraded n k s).tables = s.tables ∧
    (updateWheelDegraded n k s).bus = s.bus ∧ (updateWheelDegraded n k s).sel = s.sel ∧
    (updateWheelDegraded n k s).conv = s.conv ∧ (updateWheelDegraded n k s).port.mem = s.port.mem ∧
    (updateWheelDegraded n k s).port.timer = s.port.timer ∧
    (updateWheelDegraded n k s).port.window = s.port.window ∧
    (updateWheelDegraded n k s).port.windowAge = s.port.windowAge ∧
    (updateWheelDegraded n k s).port.opensAtCompletion = s.port.opensAtCompletion ∧
    (updateWheelDegraded n k s).port.holdArmed = s.port.holdArmed ∧
    (updateWheelDegraded n k s).port.deferral = s.port.deferral ∧
    (updateWheelDegraded n k s).port.inProgress = s.port.inProgress ∧
    (updateWheelDegraded n k s).port.held = s.port.held ∧
    (updateWheelDegraded n k s).port.adData = s.port.adData ∧
    (updateWheelDegraded n k s).port.enable = s.port.enable ∧
    (updateWheelDegraded n k s).port.mode = s.port.mode ∧
    (updateWheelDegraded n k s).port.take = s.port.take ∧
    (updateWheelDegraded n k s).port.expected = s.port.expected ∧
    (updateWheelDegraded n k s).port.map = s.port.map ∧
    (updateWheelDegraded n k s).port.selection = s.port.selection ∧
    (updateWheelDegraded n k s).port.snapshotNumber = s.port.snapshotNumber := by
  unfold updateWheelDegraded
  repeat' split
  all_goals simp

/-- What `trackerStage` leaves alone. -/
@[simp] theorem trackerStage_keeps (s : State) :
    ((trackerStage s).1).pending = s.pending ∧ ((trackerStage s).1).phase = s.phase ∧
    ((trackerStage s).1).rstn = s.rstn ∧ ((trackerStage s).1).ticks = s.ticks ∧
    ((trackerStage s).1).law = s.law ∧ ((trackerStage s).1).tables = s.tables ∧
    ((trackerStage s).1).bus = s.bus ∧ ((trackerStage s).1).sel = s.sel ∧
    ((trackerStage s).1).conv = s.conv ∧ ((trackerStage s).1).port.mem = s.port.mem ∧
    ((trackerStage s).1).port.timer = s.port.timer ∧
    ((trackerStage s).1).port.window = s.port.window ∧
    ((trackerStage s).1).port.windowAge = s.port.windowAge ∧
    ((trackerStage s).1).port.opensAtCompletion = s.port.opensAtCompletion ∧
    ((trackerStage s).1).port.holdArmed = s.port.holdArmed ∧
    ((trackerStage s).1).port.deferral = s.port.deferral ∧
    ((trackerStage s).1).port.inProgress = s.port.inProgress ∧
    ((trackerStage s).1).port.held = s.port.held ∧
    ((trackerStage s).1).port.adData = s.port.adData ∧
    ((trackerStage s).1).port.enable = s.port.enable ∧
    ((trackerStage s).1).port.mode = s.port.mode ∧
    ((trackerStage s).1).port.take = s.port.take ∧
    ((trackerStage s).1).port.expected = s.port.expected ∧
    ((trackerStage s).1).port.map = s.port.map ∧
    ((trackerStage s).1).port.selection = s.port.selection ∧
    ((trackerStage s).1).port.snapshotNumber = s.port.snapshotNumber := by
  simp [trackerStage]

/-- What `cycleEndHeld` leaves alone. -/
@[simp] theorem cycleEndHeld_keeps (v : Nat) (s : State) :
    (cycleEndHeld v s).pending = s.pending ∧ (cycleEndHeld v s).phase = s.phase ∧
    (cycleEndHeld v s).rstn = s.rstn ∧ (cycleEndHeld v s).ticks = s.ticks ∧
    (cycleEndHeld v s).law = s.law ∧ (cycleEndHeld v s).tables = s.tables ∧
    (cycleEndHeld v s).bus = s.bus ∧ (cycleEndHeld v s).sel = s.sel ∧
    (cycleEndHeld v s).wheels = s.wheels ∧ (cycleEndHeld v s).conv = s.conv ∧
    (cycleEndHeld v s).faults = s.faults ∧ (cycleEndHeld v s).port.mem = s.port.mem ∧
    (cycleEndHeld v s).port.timer = s.port.timer ∧ (cycleEndHeld v s).port.window = s.port.window ∧
    (cycleEndHeld v s).port.windowAge = s.port.windowAge ∧
    (cycleEndHeld v s).port.opensAtCompletion = s.port.opensAtCompletion ∧
    (cycleEndHeld v s).port.holdArmed = s.port.holdArmed ∧
    (cycleEndHeld v s).port.deferral = s.port.deferral ∧
    (cycleEndHeld v s).port.inProgress = s.port.inProgress ∧
    (cycleEndHeld v s).port.held = s.port.held ∧ (cycleEndHeld v s).port.adData = s.port.adData ∧
    (cycleEndHeld v s).port.cause = s.port.cause ∧ (cycleEndHeld v s).port.enable = s.port.enable ∧
    (cycleEndHeld v s).port.mode = s.port.mode ∧ (cycleEndHeld v s).port.take = s.port.take ∧
    (cycleEndHeld v s).port.expected = s.port.expected ∧ (cycleEndHeld v s).port.map = s.port.map ∧
    (cycleEndHeld v s).port.selection = s.port.selection ∧
    (cycleEndHeld v s).port.snapshotNumber = s.port.snapshotNumber := by
  unfold cycleEndHeld
  repeat' split
  all_goals simp

/-- What `cycleEndReleasing` leaves alone. -/
@[simp] theorem cycleEndReleasing_keeps (v : Nat) (s : State) :
    (cycleEndReleasing v s).pending = s.pending ∧ (cycleEndReleasing v s).phase = s.phase ∧
    (cycleEndReleasing v s).rstn = s.rstn ∧ (cycleEndReleasing v s).ticks = s.ticks ∧
    (cycleEndReleasing v s).law = s.law ∧ (cycleEndReleasing v s).bus = s.bus ∧
    (cycleEndReleasing v s).sel = s.sel ∧ (cycleEndReleasing v s).wheels = s.wheels ∧
    (cycleEndReleasing v s).conv = s.conv ∧ (cycleEndReleasing v s).faults = s.faults ∧
    (cycleEndReleasing v s).port.mem = s.port.mem ∧
    (cycleEndReleasing v s).port.timer = s.port.timer ∧
    (cycleEndReleasing v s).port.window = s.port.window ∧
    (cycleEndReleasing v s).port.windowAge = s.port.windowAge ∧
    (cycleEndReleasing v s).port.opensAtCompletion = s.port.opensAtCompletion ∧
    (cycleEndReleasing v s).port.holdArmed = s.port.holdArmed ∧
    (cycleEndReleasing v s).port.deferral = s.port.deferral ∧
    (cycleEndReleasing v s).port.inProgress = s.port.inProgress ∧
    (cycleEndReleasing v s).port.held = s.port.held ∧
    (cycleEndReleasing v s).port.adData = s.port.adData ∧
    (cycleEndReleasing v s).port.cause = s.port.cause ∧
    (cycleEndReleasing v s).port.enable = s.port.enable ∧
    (cycleEndReleasing v s).port.mode = s.port.mode ∧
    (cycleEndReleasing v s).port.take = s.port.take ∧
    (cycleEndReleasing v s).port.expected = s.port.expected ∧
    (cycleEndReleasing v s).port.map = s.port.map ∧
    (cycleEndReleasing v s).port.selection = s.port.selection ∧
    (cycleEndReleasing v s).port.snapshotNumber = s.port.snapshotNumber := by
  unfold cycleEndReleasing
  repeat' split
  all_goals simp

/-- What `cycleEndActive` leaves alone. -/
@[simp] theorem cycleEndActive_keeps (v : Nat) (s : State) :
    (cycleEndActive v s).pending = s.pending ∧ (cycleEndActive v s).phase = s.phase ∧
    (cycleEndActive v s).rstn = s.rstn ∧ (cycleEndActive v s).ticks = s.ticks ∧
    (cycleEndActive v s).law = s.law ∧ (cycleEndActive v s).tables = s.tables ∧
    (cycleEndActive v s).bus = s.bus ∧ (cycleEndActive v s).sel = s.sel ∧
    (cycleEndActive v s).wheels = s.wheels ∧ (cycleEndActive v s).conv = s.conv ∧
    (cycleEndActive v s).faults = s.faults ∧ (cycleEndActive v s).port.mem = s.port.mem ∧
    (cycleEndActive v s).port.timer = s.port.timer ∧
    (cycleEndActive v s).port.window = s.port.window ∧
    (cycleEndActive v s).port.windowAge = s.port.windowAge ∧
    (cycleEndActive v s).port.opensAtCompletion = s.port.opensAtCompletion ∧
    (cycleEndActive v s).port.holdArmed = s.port.holdArmed ∧
    (cycleEndActive v s).port.deferral = s.port.deferral ∧
    (cycleEndActive v s).port.inProgress = s.port.inProgress ∧
    (cycleEndActive v s).port.held = s.port.held ∧
    (cycleEndActive v s).port.adData = s.port.adData ∧
    (cycleEndActive v s).port.cause = s.port.cause ∧
    (cycleEndActive v s).port.enable = s.port.enable ∧
    (cycleEndActive v s).port.mode = s.port.mode ∧ (cycleEndActive v s).port.take = s.port.take ∧
    (cycleEndActive v s).port.expected = s.port.expected ∧
    (cycleEndActive v s).port.map = s.port.map ∧
    (cycleEndActive v s).port.selection = s.port.selection ∧
    (cycleEndActive v s).port.snapshotNumber = s.port.snapshotNumber := by
  unfold cycleEndActive
  repeat' split
  all_goals simp

/-- What `cycleEndCapturing` leaves alone. -/
@[simp] theorem cycleEndCapturing_keeps (v : Nat) (s : State) :
    (cycleEndCapturing v s).pending = s.pending ∧ (cycleEndCapturing v s).phase = s.phase ∧
    (cycleEndCapturing v s).rstn = s.rstn ∧ (cycleEndCapturing v s).ticks = s.ticks ∧
    (cycleEndCapturing v s).law = s.law ∧ (cycleEndCapturing v s).bus = s.bus ∧
    (cycleEndCapturing v s).sel = s.sel ∧ (cycleEndCapturing v s).wheels = s.wheels ∧
    (cycleEndCapturing v s).conv = s.conv ∧ (cycleEndCapturing v s).faults = s.faults ∧
    (cycleEndCapturing v s).port.mem = s.port.mem ∧
    (cycleEndCapturing v s).port.timer = s.port.timer ∧
    (cycleEndCapturing v s).port.window = s.port.window ∧
    (cycleEndCapturing v s).port.windowAge = s.port.windowAge ∧
    (cycleEndCapturing v s).port.opensAtCompletion = s.port.opensAtCompletion ∧
    (cycleEndCapturing v s).port.holdArmed = s.port.holdArmed ∧
    (cycleEndCapturing v s).port.deferral = s.port.deferral ∧
    (cycleEndCapturing v s).port.inProgress = s.port.inProgress ∧
    (cycleEndCapturing v s).port.held = s.port.held ∧
    (cycleEndCapturing v s).port.adData = s.port.adData ∧
    (cycleEndCapturing v s).port.cause = s.port.cause ∧
    (cycleEndCapturing v s).port.enable = s.port.enable ∧
    (cycleEndCapturing v s).port.mode = s.port.mode ∧
    (cycleEndCapturing v s).port.take = s.port.take ∧
    (cycleEndCapturing v s).port.expected = s.port.expected ∧
    (cycleEndCapturing v s).port.map = s.port.map ∧
    (cycleEndCapturing v s).port.selection = s.port.selection ∧
    (cycleEndCapturing v s).port.snapshotNumber = s.port.snapshotNumber := by
  unfold cycleEndCapturing
  dsimp only
  repeat' split
  all_goals simp

/-- What `cycleEndSafe` leaves alone. -/
@[simp] theorem cycleEndSafe_keeps (v : Nat) (s : State) :
    (cycleEndSafe v s).pending = s.pending ∧ (cycleEndSafe v s).phase = s.phase ∧
    (cycleEndSafe v s).rstn = s.rstn ∧ (cycleEndSafe v s).ticks = s.ticks ∧
    (cycleEndSafe v s).law = s.law ∧ (cycleEndSafe v s).tables = s.tables ∧
    (cycleEndSafe v s).bus = s.bus ∧ (cycleEndSafe v s).sel = s.sel ∧
    (cycleEndSafe v s).wheels = s.wheels ∧ (cycleEndSafe v s).conv = s.conv ∧
    (cycleEndSafe v s).faults = s.faults ∧ (cycleEndSafe v s).port = s.port := by
  unfold cycleEndSafe
  repeat' split
  all_goals simp

/-- What `cycleEnd` leaves alone. -/
@[simp] theorem cycleEnd_keeps (s : State) :
    (cycleEnd s).pending = s.pending ∧ (cycleEnd s).phase = s.phase ∧ (cycleEnd s).rstn = s.rstn ∧
    (cycleEnd s).ticks = s.ticks ∧ (cycleEnd s).law = s.law ∧ (cycleEnd s).bus = s.bus ∧
    (cycleEnd s).sel = s.sel ∧ (cycleEnd s).wheels = s.wheels ∧ (cycleEnd s).conv = s.conv ∧
    (cycleEnd s).faults = s.faults ∧ (cycleEnd s).port.mem = s.port.mem ∧
    (cycleEnd s).port.timer = s.port.timer ∧ (cycleEnd s).port.window = s.port.window ∧
    (cycleEnd s).port.windowAge = s.port.windowAge ∧
    (cycleEnd s).port.opensAtCompletion = s.port.opensAtCompletion ∧
    (cycleEnd s).port.holdArmed = s.port.holdArmed ∧ (cycleEnd s).port.deferral = s.port.deferral ∧
    (cycleEnd s).port.inProgress = s.port.inProgress ∧ (cycleEnd s).port.held = s.port.held ∧
    (cycleEnd s).port.adData = s.port.adData ∧ (cycleEnd s).port.cause = s.port.cause ∧
    (cycleEnd s).port.enable = s.port.enable ∧ (cycleEnd s).port.mode = s.port.mode ∧
    (cycleEnd s).port.take = s.port.take ∧ (cycleEnd s).port.expected = s.port.expected ∧
    (cycleEnd s).port.map = s.port.map ∧ (cycleEnd s).port.selection = s.port.selection ∧
    (cycleEnd s).port.snapshotNumber = s.port.snapshotNumber := by
  unfold cycleEnd
  dsimp only
  split <;> simp

/-- What `completeComputation` leaves alone. -/
@[simp] theorem completeComputation_keeps (r : Results) (s : State) :
    (completeComputation r s).pending = s.pending ∧ (completeComputation r s).phase = s.phase ∧
    (completeComputation r s).rstn = s.rstn ∧ (completeComputation r s).ticks = s.ticks ∧
    (completeComputation r s).bus = s.bus ∧ (completeComputation r s).sel = s.sel ∧
    (completeComputation r s).wheels = s.wheels ∧ (completeComputation r s).conv = s.conv ∧
    (completeComputation r s).faults = s.faults ∧ (completeComputation r s).port.mem = s.port.mem ∧
    (completeComputation r s).port.timer = s.port.timer ∧
    (completeComputation r s).port.window = s.port.window ∧
    (completeComputation r s).port.windowAge = s.port.windowAge ∧
    (completeComputation r s).port.opensAtCompletion = s.port.opensAtCompletion ∧
    (completeComputation r s).port.holdArmed = s.port.holdArmed ∧
    (completeComputation r s).port.deferral = s.port.deferral ∧
    (completeComputation r s).port.inProgress = s.port.inProgress ∧
    (completeComputation r s).port.held = s.port.held ∧
    (completeComputation r s).port.adData = s.port.adData ∧
    (completeComputation r s).port.cause = s.port.cause ∧
    (completeComputation r s).port.enable = s.port.enable ∧
    (completeComputation r s).port.mode = s.port.mode ∧
    (completeComputation r s).port.take = s.port.take ∧
    (completeComputation r s).port.expected = s.port.expected ∧
    (completeComputation r s).port.map = s.port.map ∧
    (completeComputation r s).port.snapshotNumber = s.port.snapshotNumber := by
  simp [completeComputation]

/-- What `completeInProgress` leaves alone. -/
@[simp] theorem completeInProgress_keeps (s : State) :
    (completeInProgress s).pending = s.pending ∧ (completeInProgress s).phase = s.phase ∧
    (completeInProgress s).rstn = s.rstn ∧ (completeInProgress s).ticks = s.ticks ∧
    (completeInProgress s).bus = s.bus ∧ (completeInProgress s).sel = s.sel ∧
    (completeInProgress s).wheels = s.wheels ∧ (completeInProgress s).conv = s.conv ∧
    (completeInProgress s).faults = s.faults ∧ (completeInProgress s).port.mem = s.port.mem ∧
    (completeInProgress s).port.timer = s.port.timer ∧
    (completeInProgress s).port.window = s.port.window ∧
    (completeInProgress s).port.windowAge = s.port.windowAge ∧
    (completeInProgress s).port.opensAtCompletion = s.port.opensAtCompletion ∧
    (completeInProgress s).port.holdArmed = s.port.holdArmed ∧
    (completeInProgress s).port.deferral = s.port.deferral ∧
    (completeInProgress s).port.inProgress = s.port.inProgress ∧
    (completeInProgress s).port.held = s.port.held ∧
    (completeInProgress s).port.adData = s.port.adData ∧
    (completeInProgress s).port.cause = s.port.cause ∧
    (completeInProgress s).port.enable = s.port.enable ∧
    (completeInProgress s).port.mode = s.port.mode ∧
    (completeInProgress s).port.take = s.port.take ∧
    (completeInProgress s).port.expected = s.port.expected ∧
    (completeInProgress s).port.map = s.port.map ∧
    (completeInProgress s).port.snapshotNumber = s.port.snapshotNumber := by
  unfold completeInProgress
  repeat' split
  all_goals simp

/-- What `startComputation` leaves alone. -/
@[simp] theorem startComputation_keeps (s : State) :
    (startComputation s).pending = s.pending ∧ (startComputation s).phase = s.phase ∧
    (startComputation s).rstn = s.rstn ∧ (startComputation s).ticks = s.ticks ∧
    (startComputation s).tables = s.tables ∧ (startComputation s).bus = s.bus ∧
    (startComputation s).conv = s.conv ∧ (startComputation s).port.mem = s.port.mem ∧
    (startComputation s).port.timer = s.port.timer ∧
    (startComputation s).port.window = s.port.window ∧
    (startComputation s).port.windowAge = s.port.windowAge ∧
    (startComputation s).port.opensAtCompletion = s.port.opensAtCompletion ∧
    (startComputation s).port.holdArmed = s.port.holdArmed ∧
    (startComputation s).port.deferral = s.port.deferral ∧
    (startComputation s).port.inProgress = s.port.inProgress ∧
    (startComputation s).port.held = s.port.held ∧
    (startComputation s).port.adData = s.port.adData ∧
    (startComputation s).port.enable = s.port.enable ∧
    (startComputation s).port.mode = s.port.mode ∧
    (startComputation s).port.take = s.port.take ∧
    (startComputation s).port.expected = s.port.expected ∧
    (startComputation s).port.map = s.port.map ∧
    (startComputation s).port.selection = s.port.selection ∧
    (startComputation s).port.snapshotNumber = s.port.snapshotNumber := by
  simp [startComputation]

/-- What `conflictChange` leaves alone. -/
@[simp] theorem conflictChange_keeps (a b : LockDrive) (s : State) :
    (conflictChange a b s).pending = s.pending ∧ (conflictChange a b s).phase = s.phase ∧
    (conflictChange a b s).rstn = s.rstn ∧ (conflictChange a b s).ticks = s.ticks ∧
    (conflictChange a b s).law = s.law ∧ (conflictChange a b s).tables = s.tables ∧
    (conflictChange a b s).bus = s.bus ∧ (conflictChange a b s).sel = s.sel ∧
    (conflictChange a b s).wheels = s.wheels ∧ (conflictChange a b s).conv = s.conv ∧
    (conflictChange a b s).port.mem = s.port.mem ∧
    (conflictChange a b s).port.timer = s.port.timer ∧
    (conflictChange a b s).port.window = s.port.window ∧
    (conflictChange a b s).port.windowAge = s.port.windowAge ∧
    (conflictChange a b s).port.opensAtCompletion = s.port.opensAtCompletion ∧
    (conflictChange a b s).port.holdArmed = s.port.holdArmed ∧
    (conflictChange a b s).port.deferral = s.port.deferral ∧
    (conflictChange a b s).port.inProgress = s.port.inProgress ∧
    (conflictChange a b s).port.held = s.port.held ∧
    (conflictChange a b s).port.adData = s.port.adData ∧
    (conflictChange a b s).port.enable = s.port.enable ∧
    (conflictChange a b s).port.mode = s.port.mode ∧
    (conflictChange a b s).port.take = s.port.take ∧
    (conflictChange a b s).port.expected = s.port.expected ∧
    (conflictChange a b s).port.map = s.port.map ∧
    (conflictChange a b s).port.selection = s.port.selection ∧
    (conflictChange a b s).port.snapshotNumber = s.port.snapshotNumber := by
  unfold conflictChange
  repeat' split
  all_goals simp

/-- What `lockDriveChange` leaves alone. -/
@[simp] theorem lockDriveChange_keeps (a b : LockDrive) (s : State) :
    (lockDriveChange a b s).pending = s.pending ∧ (lockDriveChange a b s).phase = s.phase ∧
    (lockDriveChange a b s).rstn = s.rstn ∧ (lockDriveChange a b s).ticks = s.ticks ∧
    (lockDriveChange a b s).law = s.law ∧ (lockDriveChange a b s).bus = s.bus ∧
    (lockDriveChange a b s).sel = s.sel ∧ (lockDriveChange a b s).wheels = s.wheels ∧
    (lockDriveChange a b s).conv = s.conv ∧ (lockDriveChange a b s).port.mem = s.port.mem ∧
    (lockDriveChange a b s).port.timer = s.port.timer ∧
    (lockDriveChange a b s).port.window = s.port.window ∧
    (lockDriveChange a b s).port.windowAge = s.port.windowAge ∧
    (lockDriveChange a b s).port.opensAtCompletion = s.port.opensAtCompletion ∧
    (lockDriveChange a b s).port.holdArmed = s.port.holdArmed ∧
    (lockDriveChange a b s).port.deferral = s.port.deferral ∧
    (lockDriveChange a b s).port.inProgress = s.port.inProgress ∧
    (lockDriveChange a b s).port.held = s.port.held ∧
    (lockDriveChange a b s).port.adData = s.port.adData ∧
    (lockDriveChange a b s).port.enable = s.port.enable ∧
    (lockDriveChange a b s).port.mode = s.port.mode ∧
    (lockDriveChange a b s).port.take = s.port.take ∧
    (lockDriveChange a b s).port.expected = s.port.expected ∧
    (lockDriveChange a b s).port.map = s.port.map ∧
    (lockDriveChange a b s).port.selection = s.port.selection ∧
    (lockDriveChange a b s).port.snapshotNumber = s.port.snapshotNumber := by
  unfold lockDriveChange
  dsimp only
  repeat' split
  all_goals simp

/-- What `acceptContact` leaves alone. -/
@[simp] theorem acceptContact_keeps (l : Line) (s : State) :
    (acceptContact l s).pending = s.pending ∧ (acceptContact l s).phase = s.phase ∧
    (acceptContact l s).rstn = s.rstn ∧ (acceptContact l s).ticks = s.ticks ∧
    (acceptContact l s).law = s.law ∧ (acceptContact l s).bus = s.bus ∧
    (acceptContact l s).sel = s.sel ∧ (acceptContact l s).wheels = s.wheels ∧
    (acceptContact l s).conv = s.conv ∧ (acceptContact l s).port.mem = s.port.mem ∧
    (acceptContact l s).port.timer = s.port.timer ∧
    (acceptContact l s).port.window = s.port.window ∧
    (acceptContact l s).port.windowAge = s.port.windowAge ∧
    (acceptContact l s).port.opensAtCompletion = s.port.opensAtCompletion ∧
    (acceptContact l s).port.holdArmed = s.port.holdArmed ∧
    (acceptContact l s).port.deferral = s.port.deferral ∧
    (acceptContact l s).port.inProgress = s.port.inProgress ∧
    (acceptContact l s).port.held = s.port.held ∧ (acceptContact l s).port.adData = s.port.adData ∧
    (acceptContact l s).port.enable = s.port.enable ∧ (acceptContact l s).port.mode = s.port.mode ∧
    (acceptContact l s).port.take = s.port.take ∧
    (acceptContact l s).port.expected = s.port.expected ∧
    (acceptContact l s).port.map = s.port.map ∧
    (acceptContact l s).port.selection = s.port.selection ∧
    (acceptContact l s).port.snapshotNumber = s.port.snapshotNumber := by
  unfold acceptContact
  dsimp only
  repeat' split
  all_goals simp

/-- What `giveUpRelease` leaves alone. -/
@[simp] theorem giveUpRelease_keeps (s : State) :
    (giveUpRelease s).pending = s.pending ∧ (giveUpRelease s).phase = s.phase ∧
    (giveUpRelease s).rstn = s.rstn ∧ (giveUpRelease s).ticks = s.ticks ∧
    (giveUpRelease s).law = s.law ∧ (giveUpRelease s).bus = s.bus ∧ (giveUpRelease s).sel = s.sel ∧
    (giveUpRelease s).wheels = s.wheels ∧ (giveUpRelease s).conv = s.conv ∧
    (giveUpRelease s).port.mem = s.port.mem ∧ (giveUpRelease s).port.timer = s.port.timer ∧
    (giveUpRelease s).port.window = s.port.window ∧
    (giveUpRelease s).port.windowAge = s.port.windowAge ∧
    (giveUpRelease s).port.opensAtCompletion = s.port.opensAtCompletion ∧
    (giveUpRelease s).port.holdArmed = s.port.holdArmed ∧
    (giveUpRelease s).port.deferral = s.port.deferral ∧
    (giveUpRelease s).port.inProgress = s.port.inProgress ∧
    (giveUpRelease s).port.held = s.port.held ∧ (giveUpRelease s).port.adData = s.port.adData ∧
    (giveUpRelease s).port.enable = s.port.enable ∧ (giveUpRelease s).port.mode = s.port.mode ∧
    (giveUpRelease s).port.take = s.port.take ∧ (giveUpRelease s).port.expected = s.port.expected ∧
    (giveUpRelease s).port.map = s.port.map ∧ (giveUpRelease s).port.selection = s.port.selection ∧
    (giveUpRelease s).port.snapshotNumber = s.port.snapshotNumber := by
  simp [giveUpRelease]

/-- What `failEngagement` leaves alone. -/
@[simp] theorem failEngagement_keeps (s : State) :
    (failEngagement s).pending = s.pending ∧ (failEngagement s).phase = s.phase ∧
    (failEngagement s).rstn = s.rstn ∧ (failEngagement s).ticks = s.ticks ∧
    (failEngagement s).law = s.law ∧ (failEngagement s).tables = s.tables ∧
    (failEngagement s).bus = s.bus ∧ (failEngagement s).sel = s.sel ∧
    (failEngagement s).wheels = s.wheels ∧ (failEngagement s).conv = s.conv ∧
    (failEngagement s).port.mem = s.port.mem ∧ (failEngagement s).port.timer = s.port.timer ∧
    (failEngagement s).port.window = s.port.window ∧
    (failEngagement s).port.windowAge = s.port.windowAge ∧
    (failEngagement s).port.opensAtCompletion = s.port.opensAtCompletion ∧
    (failEngagement s).port.holdArmed = s.port.holdArmed ∧
    (failEngagement s).port.deferral = s.port.deferral ∧
    (failEngagement s).port.inProgress = s.port.inProgress ∧
    (failEngagement s).port.held = s.port.held ∧ (failEngagement s).port.adData = s.port.adData ∧
    (failEngagement s).port.enable = s.port.enable ∧ (failEngagement s).port.mode = s.port.mode ∧
    (failEngagement s).port.take = s.port.take ∧
    (failEngagement s).port.expected = s.port.expected ∧ (failEngagement s).port.map = s.port.map ∧
    (failEngagement s).port.selection = s.port.selection ∧
    (failEngagement s).port.snapshotNumber = s.port.snapshotNumber := by
  unfold failEngagement
  dsimp only
  repeat' split
  all_goals simp

end Sys2Proof.Machine
end

