-- ==== Sys2Proof/Laws/Entries.lean ====
section
/-! SUPPORT. What a mode change and each entry into a mode leave, said once in the terms of Safety.lean
(R2, R3, R20, R26, R133, R142). -/

namespace Sys2Proof.Machine

/-- A channel's change of its wanted state is the one Table 8-3 gives. -/
theorem Channel.want_eq_given (wanted kindClear : Bool) (c : Channel) :
    c.want wanted kindClear = c.given wanted kindClear := by
  cases c with
  | mk state _ _ _ _ _ _ =>
    cases wanted <;> cases kindClear <;> cases state <;>
      simp [Channel.given, Channel.want, Channel.enterOn, Channel.enterOff]

@[simp] theorem State.modeChanged_seq (s : State) (c : ModeCause) (q : Sequencer) (tilt steer : Bool) :
    (s.modeChanged c q tilt steer).seq = q := by simp [State.modeChanged]

@[simp] theorem State.modeChanged_tables (s : State) (c : ModeCause) (q : Sequencer) (tilt steer : Bool) :
    (s.modeChanged c q tilt steer).tables = s.tables := by simp [State.modeChanged]

@[simp] theorem State.modeChanged_faults (s : State) (c : ModeCause) (q : Sequencer) (tilt steer : Bool) :
    (s.modeChanged c q tilt steer).faults = s.faults := by simp [State.modeChanged]

/-- Staging reads nothing of the sequencer and the drive block, and writes neither. -/
theorem stage_with_seq_drive (b : ReportBody) (s : State) (q : Sequencer) (d : Drive) :
    stage b { s with seq := q, drive := d } = { stage b s with seq := q, drive := d } := by
  unfold stage; dsimp only; cases s.port.map.destination b <;> rfl

/-- A field of the sequencer other than the mode and the command, set before a mode change, does not show in
what the change leaves. -/
theorem State.modeChanged_of_seq (s : State) (q₀ : Sequencer) (c : ModeCause) (q : Sequencer)
    (tilt steer : Bool) (mode : q₀.mode = s.seq.mode) (solenoid : q₀.solenoid = s.seq.solenoid) :
    ({ s with seq := q₀ } : State).modeChanged c q tilt steer = s.modeChanged c q tilt steer := by
  have h := stage_with_seq_drive (.modeChanged s.seq.mode q.mode c) s q₀ s.drive
  unfold State.modeChanged
  dsimp only
  rw [mode, solenoid, h]

/-- A field of the sequencer other than the mode and the command may be set after the mode change or with it. -/
theorem State.modeChanged_with_seq (s : State) (c : ModeCause) (q q' : Sequencer) (tilt steer : Bool)
    (mode : q'.mode = q.mode) (solenoid : q'.solenoid = q.solenoid) :
    { s.modeChanged c q tilt steer with seq := q' } = s.modeChanged c q' tilt steer := by
  simp [State.modeChanged, mode, solenoid]

/-- A mode change, whole. -/
theorem changeMode_eq (m : Mode) (c : ModeCause) (solenoid latch : Bool) (s : State) :
    changeMode m c solenoid latch s =
      s.modeChanged c
        { s.seq with solenoid := solenoid, mode := m, lockLimit := m.lockLimit, latchHolding := latch }
        m.tiltWanted m.steerWanted := by
  have channels : ∀ a b, (s.drive.command a b).tilt = s.drive.tilt ∧
      (s.drive.command a b).steer = s.drive.steer := by
    intro a b; cases a <;> cases b <;> exact ⟨rfl, rfl⟩
  unfold changeMode State.modeChanged
  simp only [setSolenoid, want, Drive.channel, Drive.setChannel, Channel.want_eq_given, Bridge.overcurrent,
    (channels _ _).1, (channels _ _).2]
  exact stage_with_seq_drive _ s _ _

/-- An entry into HELD, whole: the swap request comes last (R20, R26). -/
theorem enterHeld_eq (c : ModeCause) (s : State) :
    enterHeld c s = requestSwap (s.modeChanged c
      { s.seq with solenoid := false, mode := .held, lockLimit := none, latchHolding := false,
                   attemptCount := 0, captureCount := 0 } false true) := by
  unfold enterHeld enterMode
  rw [changeMode_eq]; dsimp only; rw [State.modeChanged_with_seq] <;> rfl

/-- An entry into OFF, whole. -/
theorem enterOff_eq (c : ModeCause) (s : State) :
    enterOff c s = s.modeChanged c
      { s.seq with solenoid := false, mode := .off, lockLimit := none, latchHolding := false,
                   attemptCount := 0, captureCount := 0 } false false := by
  unfold enterOff enterMode
  rw [changeMode_eq]; dsimp only; rw [State.modeChanged_with_seq] <;> rfl

/-- An entry into CAPTURING, whole. -/
theorem enterCapturing_eq (c : ModeCause) (s : State) :
    enterCapturing c s = s.modeChanged c
      { s.seq with solenoid := true, mode := .capturing, lockLimit := none, latchHolding := false,
                   captureCount := 0 } true true := by
  unfold enterCapturing enterMode
  rw [changeMode_eq]; dsimp only; rw [State.modeChanged_with_seq] <;> rfl

/-- A return to ACTIVE, whole. -/
theorem enterActive_eq (c : ModeCause) (s : State) :
    enterActive c s = s.modeChanged c
      { s.seq with solenoid := true, mode := .active, lockLimit := none, latchHolding := false,
                   captureCount := 0 } true true := by
  unfold enterActive enterMode
  rw [changeMode_eq]; dsimp only; rw [State.modeChanged_with_seq] <;> rfl

/-- An entry into ENGAGING, whole: with the pin seated HELD follows in the same event (R20). -/
theorem enterEngaging_eq (c : ModeCause) (s : State) :
    enterEngaging c s =
      let q : Sequencer :=
        { s.seq with solenoid := false, mode := .engaging, lockLimit := some 150000, latchHolding := false }
      let given := s.modeChanged c q true true
      if s.seq.lockDrive = .engaged then
        requestSwap (given.modeChanged .lockContact
          { q with mode := .held, lockLimit := none, attemptCount := 0, captureCount := 0 } false true)
      else given := by
  unfold enterEngaging enterMode
  rw [changeMode_eq]
  dsimp only
  rw [State.modeChanged_seq]
  change (match s.seq.lockDrive with
    | .engaged => _ | .moving => _ | .released => _ | .conflict => _) = _
  cases s.seq.lockDrive <;> simp [enterHeld_eq] <;> rfl

/-- After the swap request no commit is pending. -/
@[simp] theorem requestSwap_settled (s : State) : (requestSwap s).tables.commitPending = false := by
  unfold requestSwap
  split
  · simp [swap]
  · simp_all

end Sys2Proof.Machine
end

