-- ==== Sys2Proof/Laws/Faults.lean ====
section
/-! SUPPORT. The fault table: a kind's record after a write, the summaries over the kinds, and what a raise,
an end, an escalation and a clear leave in each kind's record. -/

namespace Sys2Proof.Machine

theorem idx_injective {j k : FaultKind} (h : j.idx = k.idx) : j = k := by
  cases j <;> cases k <;> first | rfl | (exact absurd h (by decide))

@[simp] theorem get_put_same (m : FaultMonitor) (k : FaultKind) (r : FaultRecord) :
    (m.put k r).get k = r := by
  simp [FaultMonitor.get, FaultMonitor.put]

theorem get_put_ne (m : FaultMonitor) {j k : FaultKind} (r : FaultRecord) (h : j ≠ k) :
    (m.put k r).get j = m.get j := by
  have : k.idx.val ≠ j.idx.val := fun e => h (idx_injective (Fin.ext e).symm)
  simp [FaultMonitor.get, FaultMonitor.put, Vector.getElem_set_ne, this]

@[simp] theorem put_minTimer (m : FaultMonitor) (k : FaultKind) (r : FaultRecord) :
    (m.put k r).minTimer = m.minTimer := rfl

@[simp] theorem put_retained (m : FaultMonitor) (k : FaultKind) (r : FaultRecord) :
    (m.put k r).retained = m.retained := rfl

@[simp] theorem put_put (m : FaultMonitor) (k : FaultKind) (r r' : FaultRecord) :
    (m.put k r).put k r' = m.put k r' := by
  simp [FaultMonitor.put]

@[simp] theorem put_get (m : FaultMonitor) (k : FaultKind) : m.put k (m.get k) = m := by
  simp [FaultMonitor.put, FaultMonitor.get]

/-- A SAFE request writes no kind's record. -/
@[simp] theorem safeRequest_get (k : FaultKind) (n : Nat) (s : State) (j : FaultKind) :
    (safeRequest k n s).faults.get j = s.faults.get j := by
  unfold safeRequest
  split <;> simp [enterSafe, FaultMonitor.get, writeRetained]

@[simp] theorem safeRequest_minTimer (k : FaultKind) (n : Nat) (s : State) :
    (safeRequest k n s).faults.minTimer = s.faults.minTimer := by
  unfold safeRequest
  split <;> simp [enterSafe, writeRetained]

@[simp] theorem assertLine_get (was : Bool) (r : Reaction) (s : State) (j : FaultKind) :
    (assertLine was r s).faults.get j = s.faults.get j := by
  unfold assertLine
  split <;> (try dsimp only) <;> (try split) <;> rfl

@[simp] theorem assertLine_retained (was : Bool) (r : Reaction) (s : State) :
    (assertLine was r s).faults.retained = s.faults.retained := by
  unfold assertLine
  split <;> (try dsimp only) <;> (try split) <;> rfl

theorem raised_startAck (m : Bool) (n : Nat) (r : FaultRecord) :
    (r.raised m n).startAck =
      { r with state := if m then .latched else .active
               reaction := r.policyReaction
               timeout := r.policyTimeout
               acknowledged := false
               escalated := false
               ackTimer := if r.policyReaction = .degrade ∧ r.policyTimeout ≠ 0 then
                   some (r.policyTimeout * 10000) else none
               count := bump 255 r.count
               lastInstance := n } := by
  cases r with
  | mk pr pt st re out ack esc t c i =>
    cases pr <;> by_cases h : pt = 0 <;>
      simp [FaultRecord.raised, FaultRecord.startAck, FaultRecord.effective, h]

/-- The record of the kind a raise leaves (R147, R148). -/
theorem raise_get_same (k : FaultKind) (n : Nat) (s : State) :
    (raise k n s).faults.get k = ((s.faults.get k).raised k.momentary n).startAck := by
  unfold raise
  dsimp only
  split <;> simp

/-- A raise leaves the other kinds' records. -/
theorem raise_get_ne (k : FaultKind) (n : Nat) (s : State) {j : FaultKind} (h : j ≠ k) :
    (raise k n s).faults.get j = s.faults.get j := by
  unfold raise
  dsimp only
  split <;> simp [get_put_ne _ _ h]

/-- The record of the kind an end leaves (R149). -/
theorem endFault_get_same (k : FaultKind) (s : State) :
    (endFault k s).faults.get k =
      if (s.faults.get k).state = .active then { s.faults.get k with state := .latched }
      else s.faults.get k := by
  unfold endFault
  dsimp only
  split <;> simp_all

/-- An end leaves the other kinds' records. -/
theorem endFault_get_ne (k : FaultKind) (s : State) {j : FaultKind} (h : j ≠ k) :
    (endFault k s).faults.get j = s.faults.get j := by
  unfold endFault
  dsimp only
  split <;> simp [get_put_ne _ _ h]

/-- The record of the kind an escalation leaves (R152). -/
theorem escalate_get_same (k : FaultKind) (s : State) :
    (escalate k s).faults.get k =
      if (s.faults.get k).state ≠ .clear ∧ (s.faults.get k).acknowledged = false then
        { s.faults.get k with ackTimer := none, escalated := true }
      else { s.faults.get k with ackTimer := none } := by
  unfold escalate
  dsimp only
  split <;> simp_all

theorem escalate_get_ne (k : FaultKind) (s : State) {j : FaultKind} (h : j ≠ k) :
    (escalate k s).faults.get j = s.faults.get j := by
  unfold escalate
  dsimp only
  split <;> simp [get_put_ne _ _ h]

theorem notifyClear_faults' (k : FaultKind) (s : State) : (notifyClear k s).faults = s.faults := by
  simp

/-- The fault table after a clear (R154). -/
theorem clearKind_faults (k : FaultKind) (s : State) :
    (clearKind k s).faults = s.faults.put k (s.faults.get k).clearedByHost := by
  simp [clearKind]

/-- Whether some kind has a property of its record, in the terms of the kinds. -/
theorem table_any (m : FaultMonitor) (p : FaultRecord → Bool) :
    m.table.toList.any p = true ↔ ∃ k : FaultKind, p (m.get k) = true := by
  rw [List.any_eq_true]
  constructor
  · rintro ⟨r, hr, hp⟩
    obtain ⟨i, hi, rfl⟩ := List.getElem_of_mem hr
    have hi' : i < 20 := by simpa using hi
    have : ∃ k : FaultKind, k.idx.val = i := by
      have : ∀ j : Fin 20, ∃ k : FaultKind, k.idx = j := by
        intro j
        have hk := (by decide : ∀ j : Fin 20, (FaultKind.all[j.val]?).map FaultKind.idx = some j) j
        cases h : FaultKind.all[j.val]? with
        | none => simp [h] at hk
        | some k => exact ⟨k, by simpa [h] using hk⟩
      obtain ⟨k, hk⟩ := this ⟨i, hi'⟩
      exact ⟨k, by simp [hk]⟩
    obtain ⟨k, rfl⟩ := this
    exact ⟨k, by simpa [FaultMonitor.get] using hp⟩
  · rintro ⟨k, hk⟩
    exact ⟨m.get k, by simp [FaultMonitor.get], hk⟩

end Sys2Proof.Machine
end

