-- ==== Sys2Proof/Laws/Memory.lean ====
section
/-! SUPPORT. The exchange memory: what a read gives after each memory operation, and that every one keeps
the canonical form. -/

namespace Sys2Proof.Machine

/-! ### One byte -/

theorem Memory.wfAbove_mono {a b : Nat} (h : a ≤ b) :
    ∀ m : Memory, Memory.wfAbove b m = true → Memory.wfAbove a m = true
  | [], _ => rfl
  | (c, x) :: m, w => by
    simp only [Memory.wfAbove, Bool.and_eq_true, decide_eq_true_eq] at w ⊢
    exact ⟨⟨by omega, w.1.2⟩, w.2⟩

/-- A byte below every listed address reads 0. -/
theorem Memory.read_below {a b : Nat} (h : a < b) :
    ∀ m : Memory, Memory.wfAbove b m = true → Memory.read m a = 0
  | [], _ => rfl
  | (c, x) :: m, w => by
    simp only [Memory.wfAbove, Bool.and_eq_true, decide_eq_true_eq] at w
    simp only [Memory.read]
    rw [if_neg (by omega)]
    exact Memory.read_below (by omega) m w.2

/-- A write keeps the canonical form. -/
theorem Memory.write_wfAbove {n : Nat} (a : Nat) (b : Byte) (h : n ≤ a) :
    ∀ m : Memory, Memory.wfAbove n m = true → Memory.wfAbove n (Memory.write m a b) = true
  | [], _ => by
    simp only [Memory.write]
    split
    · rfl
    · simpa [Memory.wfAbove, h]
  | (c, x) :: m, w => by
    simp only [Memory.wfAbove, Bool.and_eq_true, decide_eq_true_eq] at w
    simp only [Memory.write]
    split
    · split
      · simpa [Memory.wfAbove] using w
      · simp_all [Memory.wfAbove]
    · split
      · split
        · exact Memory.wfAbove_mono (by omega) m w.2
        · simp_all [Memory.wfAbove]
      · simp only [Memory.wfAbove, Bool.and_eq_true, decide_eq_true_eq]
        exact ⟨w.1, Memory.write_wfAbove a b (by omega) m w.2⟩

/-- A write keeps the canonical form. -/
theorem Memory.write_wf (m : Memory) (a : Nat) (b : Byte) (h : m.wf = true) :
    (m.write a b).wf = true :=
  Memory.write_wfAbove a b (Nat.zero_le _) m h

/-- A byte other than the one written reads as before, in any memory. -/
theorem Memory.read_write_ne {a c : Nat} (b : Byte) (h : c ≠ a) :
    ∀ m : Memory, (Memory.write m a b).read c = Memory.read m c
  | [] => by
    simp only [Memory.write]
    split
    · rfl
    · simp [Memory.read, Ne.symm h]
  | (d, x) :: m => by
    simp only [Memory.write]
    split
    · split
      · rfl
      · simp [Memory.read, Ne.symm h]
    · split
      · subst_vars
        split
        · simp [Memory.read, Ne.symm h]
        · simp [Memory.read, Ne.symm h]
      · simp only [Memory.read]
        split
        · rfl
        · exact Memory.read_write_ne b h m

/-- The byte written reads as the value written, in a canonical memory. -/
theorem Memory.read_write_above {n a : Nat} (b : Byte) :
    ∀ m : Memory, Memory.wfAbove n m = true → (Memory.write m a b).read a = b
  | [], _ => by
    simp only [Memory.write]
    split <;> simp_all [Memory.read]
  | (d, x) :: m, w => by
    simp only [Memory.wfAbove, Bool.and_eq_true, decide_eq_true_eq] at w
    simp only [Memory.write]
    split
    · split
      · subst_vars
        simp only [Memory.read]
        rw [if_neg (by omega)]
        exact Memory.read_below (b := d + 1) (by omega) m w.2
      · simp [Memory.read]
    · split
      · subst_vars
        split
        · subst_vars
          exact Memory.read_below (b := d + 1) (by omega) m w.2
        · simp [Memory.read]
      · simp only [Memory.read]
        rw [if_neg (by omega)]
        exact Memory.read_write_above b m w.2

/-- A read after a write to the same byte gives the value written. -/
theorem Memory.read_write_same (m : Memory) (a : Nat) (b : Byte) (h : m.wf = true) :
    (m.write a b).read a = b :=
  Memory.read_write_above b m h

/-! ### Runs of bytes -/

theorem Memory.writeFrom_wf (place : Nat → Nat) :
    ∀ (l : List Byte) (m : Memory) (i : Nat), m.wf = true → (m.writeFrom place i l).wf = true
  | [], _, _, h => h
  | b :: l, m, i, h => Memory.writeFrom_wf place l _ (i + 1) (Memory.write_wf m _ b h)

theorem Memory.writeBytes_wf (m : Memory) (a : Nat) (l : List Byte) (h : m.wf = true) :
    (m.writeBytes a l).wf = true :=
  Memory.writeFrom_wf _ l m 0 h

theorem Memory.writeRing_wf (m : Memory) (base size offset : Nat) (l : List Byte) (h : m.wf = true) :
    (m.writeRing base size offset l).wf = true :=
  Memory.writeFrom_wf _ l m 0 h

theorem Memory.writeWord_wf (m : Memory) (a : Nat) (w : Word) (h : m.wf = true) :
    (m.writeWord a w).wf = true :=
  Memory.writeBytes_wf m a _ h

/-- A byte at no place written reads as before. -/
theorem Memory.read_writeFrom_outside (place : Nat → Nat) (a : Nat) :
    ∀ (l : List Byte) (m : Memory) (i : Nat), (∀ j, i ≤ j → j < i + l.length → place j ≠ a) →
      (m.writeFrom place i l).read a = m.read a
  | [], _, _, _ => rfl
  | b :: l, m, i, h => by
    simp only [Memory.writeFrom]
    rw [Memory.read_writeFrom_outside place a l _ (i + 1)
      (fun j h1 h2 => h j (by omega) (by simp only [List.length_cons]; omega))]
    exact Memory.read_write_ne b (Ne.symm (h i (Nat.le_refl i) (by simp))) m

/-- A byte of a run of writes to different places reads as the value written there. -/
theorem Memory.read_writeFrom_inside (place : Nat → Nat) :
    ∀ (l : List Byte) (m : Memory) (i k : Nat), m.wf = true → k < l.length →
      (∀ j, i + k < j → j < i + l.length → place j ≠ place (i + k)) →
      (m.writeFrom place i l).read (place (i + k)) = l.getD k 0
  | [], _, _, _, _, hk, _ => by simp at hk
  | b :: l, m, i, 0, h, _, inj => by
    simp only [Memory.writeFrom, Nat.add_zero, List.getD_cons_zero]
    rw [Memory.read_writeFrom_outside place (place i) l _ (i + 1)
      (fun j h1 h2 => inj j (by omega) (by simp only [List.length_cons]; omega))]
    exact Memory.read_write_same m (place i) b h
  | b :: l, m, i, k + 1, h, hk, inj => by
    simp only [Memory.writeFrom, List.getD_cons_succ]
    have e : i + (k + 1) = i + 1 + k := by omega
    rw [e]
    exact Memory.read_writeFrom_inside place l _ (i + 1) k (Memory.write_wf m _ b h)
      (by simpa using hk)
      (fun j h1 h2 => e ▸ inj j (by omega) (by simp only [List.length_cons]; omega))

theorem Memory.read_writeBytes_outside (m : Memory) (a : Nat) (l : List Byte) (c : Nat)
    (h : c < a ∨ a + l.length ≤ c) : (m.writeBytes a l).read c = m.read c :=
  Memory.read_writeFrom_outside _ c l m 0 (fun j _ h2 => by omega)

theorem Memory.read_writeBytes_inside (m : Memory) (a : Nat) (l : List Byte) (k : Nat)
    (hm : m.wf = true) (h : k < l.length) : (m.writeBytes a l).read (a + k) = l.getD k 0 := by
  have := Memory.read_writeFrom_inside (fun i => a + i) l m 0 k hm h (fun j h1 h2 => by omega)
  simpa [Memory.writeBytes] using this

theorem Memory.read_writeWord_outside (m : Memory) (a : Nat) (w : Word) (c : Nat)
    (h : c < a ∨ a + 2 ≤ c) : (m.writeWord a w).read c = m.read c :=
  Memory.read_writeBytes_outside m a _ c (by simpa [wordBytes] using h)

theorem Memory.read_writeWord_low (m : Memory) (a : Nat) (w : Word) (h : m.wf = true) :
    (m.writeWord a w).read a = lowByte w := by
  have := Memory.read_writeBytes_inside m a (wordBytes w) 0 h (by simp [wordBytes])
  simpa [Memory.writeWord, wordBytes] using this

theorem Memory.read_writeWord_high (m : Memory) (a : Nat) (w : Word) (h : m.wf = true) :
    (m.writeWord a w).read (a + 1) = highByte w := by
  have := Memory.read_writeBytes_inside m a (wordBytes w) 1 h (by simp [wordBytes])
  simpa [Memory.writeWord, wordBytes] using this

/-- A word is the join of its two bytes. -/
theorem joinBytes_wordBytes (w : Word) : joinBytes (lowByte w) (highByte w) = w := by
  apply BitVec.eq_of_getElem_eq
  intro i hi
  simp [joinBytes, lowByte, highByte]
  by_cases h : i < 8
  · simp [h]
    exact BitVec.getLsbD_eq_getElem hi
  · have : 8 + (i - 8) = i := by omega
    have h' : i - 8 < 8 := by omega
    simp [h, this, h']
    exact BitVec.getLsbD_eq_getElem hi

/-- A word read where it was written is the word. -/
theorem Memory.readWord_writeWord (m : Memory) (a : Nat) (w : Word) (h : m.wf = true) :
    (m.writeWord a w).readWord a = w := by
  rw [Memory.readWord, Memory.read_writeWord_low m a w h, Memory.read_writeWord_high m a w h,
    joinBytes_wordBytes]

/-! ### Words taken from another memory -/

theorem Memory.wordFold_wf (chosen : Nat → Bool) (m' : Memory) :
    ∀ (l : List Nat) (m : Memory), m.wf = true →
      (l.foldl (fun k i => if chosen i then k.writeWord (2 * i) (m'.readWord (2 * i)) else k) m).wf = true
  | [], _, h => h
  | i :: l, m, h => by
    simp only [List.foldl_cons]
    refine Memory.wordFold_wf chosen m' l _ ?_
    split
    · exact Memory.writeWord_wf m _ _ h
    · exact h

theorem Memory.mixed_wf (chosen : Nat → Bool) (m' m : Memory) (h : m.wf = true) :
    (Memory.mixed chosen m' m).wf = true :=
  Memory.wordFold_wf chosen m' _ m h

/-- The low byte of a word formed from two bytes. -/
theorem lowByte_joinBytes (lo hi : Byte) : lowByte (joinBytes lo hi) = lo := by
  simp [lowByte, joinBytes]

/-- The high byte of a word formed from two bytes. -/
theorem highByte_joinBytes (lo hi : Byte) : highByte (joinBytes lo hi) = hi := by
  apply BitVec.eq_of_getElem_eq
  intro i h
  have : 8 + i < 16 := by omega
  simpa [highByte, joinBytes, this] using BitVec.getLsbD_eq_getElem h

/-- A word copied from another memory reads as there, every other byte as before. -/
theorem Memory.read_copyWord (m' m : Memory) (i a : Nat) (h : m.wf = true) :
    (m.writeWord (2 * i) (m'.readWord (2 * i))).read a = if a / 2 = i then m'.read a else m.read a := by
  by_cases e : a / 2 = i
  · rw [if_pos e]
    rcases (by omega : a = 2 * i ∨ a = 2 * i + 1) with rfl | rfl
    · rw [Memory.read_writeWord_low m _ _ h, Memory.readWord, lowByte_joinBytes]
    · rw [Memory.read_writeWord_high m _ _ h, Memory.readWord, highByte_joinBytes]
  · rw [if_neg e]
    exact Memory.read_writeWord_outside m _ _ a (by omega)

theorem Memory.read_wordFold (chosen : Nat → Bool) (m' : Memory) (a : Nat) :
    ∀ (l : List Nat) (m : Memory), m.wf = true →
      (l.foldl (fun k i => if chosen i then k.writeWord (2 * i) (m'.readWord (2 * i)) else k) m).read a =
        if a / 2 ∈ l ∧ chosen (a / 2) = true then m'.read a else m.read a
  | [], _, _ => by simp
  | i :: l, m, h => by
    simp only [List.foldl_cons]
    by_cases c : chosen i = true
    · rw [if_pos c, Memory.read_wordFold chosen m' a l _ (Memory.writeWord_wf m _ _ h),
        Memory.read_copyWord m' m i a h]
      by_cases e : a / 2 = i
      · subst e; simp [c]
      · simp [e]
    · rw [if_neg c, Memory.read_wordFold chosen m' a l m h]
      by_cases e : a / 2 = i
      · subst e; simp [c]
      · simp [e]

/-- A byte of the mixed memory: of a chosen word of the guarded region as in the other memory, else as before. -/
theorem Memory.read_mixed (chosen : Nat → Bool) (m' m : Memory) (a : Nat) (h : m.wf = true) :
    (Memory.mixed chosen m' m).read a =
      if a < 0x1600 ∧ chosen (a / 2) = true then m'.read a else m.read a := by
  rw [Memory.mixed, Memory.read_wordFold chosen m' a _ m h]
  have : a / 2 ∈ List.range 0x0B00 ↔ a < 0x1600 := by rw [List.mem_range]; omega
  simp only [this]

/-! ### Zeroing -/

theorem Memory.filter_wfAbove (f : Host.Cell → Bool) :
    ∀ (m : Memory) (n : Nat), Memory.wfAbove n m = true → Memory.wfAbove n (m.filter f) = true
  | [], _, _ => rfl
  | (c, x) :: m, n, w => by
    simp only [Memory.wfAbove, Bool.and_eq_true, decide_eq_true_eq] at w
    simp only [List.filter_cons]
    split
    · simp only [Memory.wfAbove, Bool.and_eq_true, decide_eq_true_eq]
      exact ⟨w.1, Memory.filter_wfAbove f m _ w.2⟩
    · exact Memory.wfAbove_mono (by omega) _ (Memory.filter_wfAbove f m _ w.2)

theorem Memory.zeroed_wf (m : Memory) (lo hi : Nat) (h : m.wf = true) : (m.zeroed lo hi).wf = true :=
  Memory.filter_wfAbove _ m 0 h

theorem Memory.countsZeroed_wf (m : Memory) (h : m.wf = true) : m.countsZeroed.wf = true :=
  Memory.zeroed_wf _ _ _ (Memory.zeroed_wf m _ _ h)

/-- A zeroed range reads 0 and every other byte as before. -/
theorem Memory.read_zeroed (lo hi a : Nat) :
    ∀ m : Memory, (Memory.zeroed m lo hi).read a = if lo ≤ a ∧ a < hi then 0 else Memory.read m a
  | [] => by simp [Memory.zeroed, Memory.read]
  | (c, x) :: m => by
    have ih := Memory.read_zeroed lo hi a m
    simp only [Memory.zeroed] at ih
    simp only [Memory.zeroed, List.filter_cons]
    by_cases hc : lo ≤ c ∧ c < hi
    · simp only [hc.1, hc.2, decide_true, Bool.and_self, Bool.not_true, Bool.false_eq_true, if_false]
      rw [ih]
      split
      · rfl
      · rw [Memory.read, if_neg]
        rintro rfl
        contradiction
    · have : (!(decide (lo ≤ c) && decide (c < hi))) = true := by
        simp only [Bool.not_eq_true', Bool.and_eq_false_iff, decide_eq_false_iff_not]
        omega
      simp only [this, if_true, Memory.read]
      by_cases e : c = a
      · subst e
        simp [hc]
      · simp only [e, if_false]
        exact ih

/-- The canonical form of the memory after reset. -/
theorem reset_memory_wf : State.reset.port.mem.wf = true := rfl

end Sys2Proof.Machine
end

