-- ==== Sys2Proof/Laws/PowerFrames.lean ====
section
/-! SUPPORT. What the bus master's, the converter's and the drive block's operations leave alone. -/

namespace Sys2Proof.Machine

/-- What `stagePassDone` leaves alone. -/
@[simp] theorem stagePassDone_keeps (p : PassThrough) (d : Done) (s : State) :
    (stagePassDone p d s).pending = s.pending ∧ (stagePassDone p d s).phase = s.phase ∧
    (stagePassDone p d s).rstn = s.rstn ∧ (stagePassDone p d s).ticks = s.ticks ∧
    (stagePassDone p d s).seq = s.seq ∧ (stagePassDone p d s).law = s.law ∧
    (stagePassDone p d s).tables = s.tables ∧ (stagePassDone p d s).bus = s.bus ∧
    (stagePassDone p d s).sel = s.sel ∧ (stagePassDone p d s).wheels = s.wheels ∧
    (stagePassDone p d s).conv = s.conv ∧ (stagePassDone p d s).drive = s.drive ∧
    (stagePassDone p d s).faults = s.faults ∧ (stagePassDone p d s).port.mem = s.port.mem ∧
    (stagePassDone p d s).port.timer = s.port.timer ∧
    (stagePassDone p d s).port.window = s.port.window ∧
    (stagePassDone p d s).port.windowAge = s.port.windowAge ∧
    (stagePassDone p d s).port.opensAtCompletion = s.port.opensAtCompletion ∧
    (stagePassDone p d s).port.holdArmed = s.port.holdArmed ∧
    (stagePassDone p d s).port.deferral = s.port.deferral ∧
    (stagePassDone p d s).port.inProgress = s.port.inProgress ∧
    (stagePassDone p d s).port.held = s.port.held ∧
    (stagePassDone p d s).port.adData = s.port.adData ∧
    (stagePassDone p d s).port.cause = s.port.cause ∧
    (stagePassDone p d s).port.enable = s.port.enable ∧
    (stagePassDone p d s).port.mode = s.port.mode ∧ (stagePassDone p d s).port.take = s.port.take ∧
    (stagePassDone p d s).port.expected = s.port.expected ∧
    (stagePassDone p d s).port.map = s.port.map ∧
    (stagePassDone p d s).port.selection = s.port.selection ∧
    (stagePassDone p d s).port.snapshotNumber = s.port.snapshotNumber := by
  simp [stagePassDone]

/-- What `finishPass` leaves alone. -/
@[simp] theorem finishPass_keeps (f : PassThrough → Done) (c : Bool) (s : State) :
    (finishPass f c s).pending = s.pending ∧ (finishPass f c s).phase = s.phase ∧
    (finishPass f c s).rstn = s.rstn ∧ (finishPass f c s).ticks = s.ticks ∧
    (finishPass f c s).seq = s.seq ∧ (finishPass f c s).law = s.law ∧
    (finishPass f c s).tables = s.tables ∧ (finishPass f c s).sel = s.sel ∧
    (finishPass f c s).wheels = s.wheels ∧ (finishPass f c s).conv = s.conv ∧
    (finishPass f c s).drive = s.drive ∧ (finishPass f c s).faults = s.faults ∧
    (finishPass f c s).port.mem = s.port.mem ∧ (finishPass f c s).port.timer = s.port.timer ∧
    (finishPass f c s).port.window = s.port.window ∧
    (finishPass f c s).port.windowAge = s.port.windowAge ∧
    (finishPass f c s).port.opensAtCompletion = s.port.opensAtCompletion ∧
    (finishPass f c s).port.holdArmed = s.port.holdArmed ∧
    (finishPass f c s).port.deferral = s.port.deferral ∧
    (finishPass f c s).port.inProgress = s.port.inProgress ∧
    (finishPass f c s).port.held = s.port.held ∧ (finishPass f c s).port.adData = s.port.adData ∧
    (finishPass f c s).port.cause = s.port.cause ∧ (finishPass f c s).port.enable = s.port.enable ∧
    (finishPass f c s).port.mode = s.port.mode ∧ (finishPass f c s).port.take = s.port.take ∧
    (finishPass f c s).port.expected = s.port.expected ∧ (finishPass f c s).port.map = s.port.map ∧
    (finishPass f c s).port.selection = s.port.selection ∧
    (finishPass f c s).port.snapshotNumber = s.port.snapshotNumber := by
  unfold finishPass
  repeat' split
  all_goals simp

/-- What `stageTimeouts` leaves alone. -/
@[simp] theorem stageTimeouts_keeps (l : List PassThrough) (s : State) :
    (stageTimeouts l s).pending = s.pending ∧ (stageTimeouts l s).phase = s.phase ∧
    (stageTimeouts l s).rstn = s.rstn ∧ (stageTimeouts l s).ticks = s.ticks ∧
    (stageTimeouts l s).seq = s.seq ∧ (stageTimeouts l s).law = s.law ∧
    (stageTimeouts l s).tables = s.tables ∧ (stageTimeouts l s).bus = s.bus ∧
    (stageTimeouts l s).sel = s.sel ∧ (stageTimeouts l s).wheels = s.wheels ∧
    (stageTimeouts l s).conv = s.conv ∧ (stageTimeouts l s).drive = s.drive ∧
    (stageTimeouts l s).faults = s.faults ∧ (stageTimeouts l s).port.mem = s.port.mem ∧
    (stageTimeouts l s).port.timer = s.port.timer ∧
    (stageTimeouts l s).port.window = s.port.window ∧
    (stageTimeouts l s).port.windowAge = s.port.windowAge ∧
    (stageTimeouts l s).port.opensAtCompletion = s.port.opensAtCompletion ∧
    (stageTimeouts l s).port.holdArmed = s.port.holdArmed ∧
    (stageTimeouts l s).port.deferral = s.port.deferral ∧
    (stageTimeouts l s).port.inProgress = s.port.inProgress ∧
    (stageTimeouts l s).port.held = s.port.held ∧ (stageTimeouts l s).port.adData = s.port.adData ∧
    (stageTimeouts l s).port.cause = s.port.cause ∧
    (stageTimeouts l s).port.enable = s.port.enable ∧ (stageTimeouts l s).port.mode = s.port.mode ∧
    (stageTimeouts l s).port.take = s.port.take ∧
    (stageTimeouts l s).port.expected = s.port.expected ∧
    (stageTimeouts l s).port.map = s.port.map ∧
    (stageTimeouts l s).port.selection = s.port.selection ∧
    (stageTimeouts l s).port.snapshotNumber = s.port.snapshotNumber := by
  induction l generalizing s with
  | nil => simp [stageTimeouts]
  | cons p l ih => simp [stageTimeouts, ih]

/-- What `clearFailed` leaves alone. -/
@[simp] theorem clearFailed_keeps (s : State) :
    (clearFailed s).pending = s.pending ∧ (clearFailed s).phase = s.phase ∧
    (clearFailed s).rstn = s.rstn ∧ (clearFailed s).ticks = s.ticks ∧ (clearFailed s).law = s.law ∧
    (clearFailed s).tables = s.tables ∧ (clearFailed s).sel = s.sel ∧
    (clearFailed s).wheels = s.wheels ∧ (clearFailed s).conv = s.conv ∧
    (clearFailed s).port.mem = s.port.mem ∧ (clearFailed s).port.timer = s.port.timer ∧
    (clearFailed s).port.window = s.port.window ∧
    (clearFailed s).port.windowAge = s.port.windowAge ∧
    (clearFailed s).port.opensAtCompletion = s.port.opensAtCompletion ∧
    (clearFailed s).port.holdArmed = s.port.holdArmed ∧
    (clearFailed s).port.deferral = s.port.deferral ∧
    (clearFailed s).port.inProgress = s.port.inProgress ∧ (clearFailed s).port.held = s.port.held ∧
    (clearFailed s).port.adData = s.port.adData ∧ (clearFailed s).port.enable = s.port.enable ∧
    (clearFailed s).port.mode = s.port.mode ∧ (clearFailed s).port.take = s.port.take ∧
    (clearFailed s).port.expected = s.port.expected ∧ (clearFailed s).port.map = s.port.map ∧
    (clearFailed s).port.selection = s.port.selection ∧
    (clearFailed s).port.snapshotNumber = s.port.snapshotNumber := by
  unfold clearFailed
  repeat' split
  all_goals simp

/-- What `clearSucceeded` leaves alone. -/
@[simp] theorem clearSucceeded_keeps (s : State) :
    (clearSucceeded s).pending = s.pending ∧ (clearSucceeded s).phase = s.phase ∧
    (clearSucceeded s).rstn = s.rstn ∧ (clearSucceeded s).ticks = s.ticks ∧
    (clearSucceeded s).seq = s.seq ∧ (clearSucceeded s).law = s.law ∧
    (clearSucceeded s).tables = s.tables ∧ (clearSucceeded s).sel = s.sel ∧
    (clearSucceeded s).wheels = s.wheels ∧ (clearSucceeded s).conv = s.conv ∧
    (clearSucceeded s).drive = s.drive ∧ (clearSucceeded s).port.mem = s.port.mem ∧
    (clearSucceeded s).port.timer = s.port.timer ∧ (clearSucceeded s).port.window = s.port.window ∧
    (clearSucceeded s).port.windowAge = s.port.windowAge ∧
    (clearSucceeded s).port.opensAtCompletion = s.port.opensAtCompletion ∧
    (clearSucceeded s).port.holdArmed = s.port.holdArmed ∧
    (clearSucceeded s).port.deferral = s.port.deferral ∧
    (clearSucceeded s).port.inProgress = s.port.inProgress ∧
    (clearSucceeded s).port.held = s.port.held ∧ (clearSucceeded s).port.adData = s.port.adData ∧
    (clearSucceeded s).port.cause = s.port.cause ∧ (clearSucceeded s).port.enable = s.port.enable ∧
    (clearSucceeded s).port.mode = s.port.mode ∧ (clearSucceeded s).port.take = s.port.take ∧
    (clearSucceeded s).port.expected = s.port.expected ∧ (clearSucceeded s).port.map = s.port.map ∧
    (clearSucceeded s).port.selection = s.port.selection ∧
    (clearSucceeded s).port.snapshotNumber = s.port.snapshotNumber := by
  unfold clearSucceeded
  repeat' split
  all_goals simp

/-- What `finishClear` leaves alone. -/
@[simp] theorem finishClear_keeps (a b : Bool) (s : State) :
    (finishClear a b s).pending = s.pending ∧ (finishClear a b s).phase = s.phase ∧
    (finishClear a b s).rstn = s.rstn ∧ (finishClear a b s).ticks = s.ticks ∧
    (finishClear a b s).law = s.law ∧ (finishClear a b s).tables = s.tables ∧
    (finishClear a b s).sel = s.sel ∧ (finishClear a b s).wheels = s.wheels ∧
    (finishClear a b s).conv = s.conv ∧ (finishClear a b s).port.mem = s.port.mem ∧
    (finishClear a b s).port.timer = s.port.timer ∧
    (finishClear a b s).port.window = s.port.window ∧
    (finishClear a b s).port.windowAge = s.port.windowAge ∧
    (finishClear a b s).port.opensAtCompletion = s.port.opensAtCompletion ∧
    (finishClear a b s).port.holdArmed = s.port.holdArmed ∧
    (finishClear a b s).port.deferral = s.port.deferral ∧
    (finishClear a b s).port.inProgress = s.port.inProgress ∧
    (finishClear a b s).port.held = s.port.held ∧ (finishClear a b s).port.adData = s.port.adData ∧
    (finishClear a b s).port.enable = s.port.enable ∧ (finishClear a b s).port.mode = s.port.mode ∧
    (finishClear a b s).port.take = s.port.take ∧
    (finishClear a b s).port.expected = s.port.expected ∧
    (finishClear a b s).port.map = s.port.map ∧
    (finishClear a b s).port.selection = s.port.selection ∧
    (finishClear a b s).port.snapshotNumber = s.port.snapshotNumber := by
  unfold finishClear
  repeat' split
  all_goals simp

/-- What `applyCrossing` leaves alone. -/
@[simp] theorem applyCrossing_keeps (k : FaultKind) (c : Crossing) (s : State) :
    (applyCrossing k c s).pending = s.pending ∧ (applyCrossing k c s).phase = s.phase ∧
    (applyCrossing k c s).rstn = s.rstn ∧ (applyCrossing k c s).ticks = s.ticks ∧
    (applyCrossing k c s).law = s.law ∧ (applyCrossing k c s).tables = s.tables ∧
    (applyCrossing k c s).bus = s.bus ∧ (applyCrossing k c s).sel = s.sel ∧
    (applyCrossing k c s).wheels = s.wheels ∧ (applyCrossing k c s).conv = s.conv ∧
    (applyCrossing k c s).port.mem = s.port.mem ∧ (applyCrossing k c s).port.timer = s.port.timer ∧
    (applyCrossing k c s).port.window = s.port.window ∧
    (applyCrossing k c s).port.windowAge = s.port.windowAge ∧
    (applyCrossing k c s).port.opensAtCompletion = s.port.opensAtCompletion ∧
    (applyCrossing k c s).port.holdArmed = s.port.holdArmed ∧
    (applyCrossing k c s).port.deferral = s.port.deferral ∧
    (applyCrossing k c s).port.inProgress = s.port.inProgress ∧
    (applyCrossing k c s).port.held = s.port.held ∧
    (applyCrossing k c s).port.adData = s.port.adData ∧
    (applyCrossing k c s).port.enable = s.port.enable ∧
    (applyCrossing k c s).port.mode = s.port.mode ∧ (applyCrossing k c s).port.take = s.port.take ∧
    (applyCrossing k c s).port.expected = s.port.expected ∧
    (applyCrossing k c s).port.map = s.port.map ∧
    (applyCrossing k c s).port.selection = s.port.selection ∧
    (applyCrossing k c s).port.snapshotNumber = s.port.snapshotNumber := by
  unfold applyCrossing
  repeat' split
  all_goals simp

/-- What `sampleLow` leaves alone. -/
@[simp] theorem sampleLow_keeps (mv : Int) (s : State) :
    (sampleLow mv s).pending = s.pending ∧ (sampleLow mv s).phase = s.phase ∧
    (sampleLow mv s).rstn = s.rstn ∧ (sampleLow mv s).ticks = s.ticks ∧
    (sampleLow mv s).law = s.law ∧ (sampleLow mv s).tables = s.tables ∧
    (sampleLow mv s).bus = s.bus ∧ (sampleLow mv s).sel = s.sel ∧
    (sampleLow mv s).wheels = s.wheels ∧ (sampleLow mv s).port.mem = s.port.mem ∧
    (sampleLow mv s).port.timer = s.port.timer ∧ (sampleLow mv s).port.window = s.port.window ∧
    (sampleLow mv s).port.windowAge = s.port.windowAge ∧
    (sampleLow mv s).port.opensAtCompletion = s.port.opensAtCompletion ∧
    (sampleLow mv s).port.holdArmed = s.port.holdArmed ∧
    (sampleLow mv s).port.deferral = s.port.deferral ∧
    (sampleLow mv s).port.inProgress = s.port.inProgress ∧
    (sampleLow mv s).port.held = s.port.held ∧ (sampleLow mv s).port.adData = s.port.adData ∧
    (sampleLow mv s).port.enable = s.port.enable ∧ (sampleLow mv s).port.mode = s.port.mode ∧
    (sampleLow mv s).port.take = s.port.take ∧ (sampleLow mv s).port.expected = s.port.expected ∧
    (sampleLow mv s).port.map = s.port.map ∧ (sampleLow mv s).port.selection = s.port.selection ∧
    (sampleLow mv s).port.snapshotNumber = s.port.snapshotNumber := by
  simp [sampleLow]

/-- What `sampleHigh` leaves alone. -/
@[simp] theorem sampleHigh_keeps (mv : Int) (s : State) :
    (sampleHigh mv s).pending = s.pending ∧ (sampleHigh mv s).phase = s.phase ∧
    (sampleHigh mv s).rstn = s.rstn ∧ (sampleHigh mv s).ticks = s.ticks ∧
    (sampleHigh mv s).law = s.law ∧ (sampleHigh mv s).tables = s.tables ∧
    (sampleHigh mv s).bus = s.bus ∧ (sampleHigh mv s).sel = s.sel ∧
    (sampleHigh mv s).wheels = s.wheels ∧ (sampleHigh mv s).port.mem = s.port.mem ∧
    (sampleHigh mv s).port.timer = s.port.timer ∧ (sampleHigh mv s).port.window = s.port.window ∧
    (sampleHigh mv s).port.windowAge = s.port.windowAge ∧
    (sampleHigh mv s).port.opensAtCompletion = s.port.opensAtCompletion ∧
    (sampleHigh mv s).port.holdArmed = s.port.holdArmed ∧
    (sampleHigh mv s).port.deferral = s.port.deferral ∧
    (sampleHigh mv s).port.inProgress = s.port.inProgress ∧
    (sampleHigh mv s).port.held = s.port.held ∧ (sampleHigh mv s).port.adData = s.port.adData ∧
    (sampleHigh mv s).port.enable = s.port.enable ∧ (sampleHigh mv s).port.mode = s.port.mode ∧
    (sampleHigh mv s).port.take = s.port.take ∧ (sampleHigh mv s).port.expected = s.port.expected ∧
    (sampleHigh mv s).port.map = s.port.map ∧ (sampleHigh mv s).port.selection = s.port.selection ∧
    (sampleHigh mv s).port.snapshotNumber = s.port.snapshotNumber := by
  simp [sampleHigh]

/-- What `sampleHot` leaves alone. -/
@[simp] theorem sampleHot_keeps (b : Bridge) (t : Int) (s : State) :
    (sampleHot b t s).pending = s.pending ∧ (sampleHot b t s).phase = s.phase ∧
    (sampleHot b t s).rstn = s.rstn ∧ (sampleHot b t s).ticks = s.ticks ∧
    (sampleHot b t s).law = s.law ∧ (sampleHot b t s).tables = s.tables ∧
    (sampleHot b t s).bus = s.bus ∧ (sampleHot b t s).sel = s.sel ∧
    (sampleHot b t s).wheels = s.wheels ∧ (sampleHot b t s).port.mem = s.port.mem ∧
    (sampleHot b t s).port.timer = s.port.timer ∧ (sampleHot b t s).port.window = s.port.window ∧
    (sampleHot b t s).port.windowAge = s.port.windowAge ∧
    (sampleHot b t s).port.opensAtCompletion = s.port.opensAtCompletion ∧
    (sampleHot b t s).port.holdArmed = s.port.holdArmed ∧
    (sampleHot b t s).port.deferral = s.port.deferral ∧
    (sampleHot b t s).port.inProgress = s.port.inProgress ∧
    (sampleHot b t s).port.held = s.port.held ∧ (sampleHot b t s).port.adData = s.port.adData ∧
    (sampleHot b t s).port.enable = s.port.enable ∧ (sampleHot b t s).port.mode = s.port.mode ∧
    (sampleHot b t s).port.take = s.port.take ∧ (sampleHot b t s).port.expected = s.port.expected ∧
    (sampleHot b t s).port.map = s.port.map ∧ (sampleHot b t s).port.selection = s.port.selection ∧
    (sampleHot b t s).port.snapshotNumber = s.port.snapshotNumber := by
  unfold sampleHot
  dsimp only
  repeat' split
  all_goals simp

/-- What `watch` leaves alone. -/
@[simp] theorem watch_keeps (c : NormalChannel) (s : State) :
    (watch c s).pending = s.pending ∧ (watch c s).phase = s.phase ∧ (watch c s).rstn = s.rstn ∧
    (watch c s).ticks = s.ticks ∧ (watch c s).law = s.law ∧ (watch c s).tables = s.tables ∧
    (watch c s).bus = s.bus ∧ (watch c s).sel = s.sel ∧ (watch c s).wheels = s.wheels ∧
    (watch c s).port.mem = s.port.mem ∧ (watch c s).port.timer = s.port.timer ∧
    (watch c s).port.window = s.port.window ∧ (watch c s).port.windowAge = s.port.windowAge ∧
    (watch c s).port.opensAtCompletion = s.port.opensAtCompletion ∧
    (watch c s).port.holdArmed = s.port.holdArmed ∧ (watch c s).port.deferral = s.port.deferral ∧
    (watch c s).port.inProgress = s.port.inProgress ∧ (watch c s).port.held = s.port.held ∧
    (watch c s).port.adData = s.port.adData ∧ (watch c s).port.enable = s.port.enable ∧
    (watch c s).port.mode = s.port.mode ∧ (watch c s).port.take = s.port.take ∧
    (watch c s).port.expected = s.port.expected ∧ (watch c s).port.map = s.port.map ∧
    (watch c s).port.selection = s.port.selection ∧
    (watch c s).port.snapshotNumber = s.port.snapshotNumber := by
  unfold watch
  repeat' split
  all_goals simp

/-- What `channelTake` leaves alone. -/
@[simp] theorem channelTake_keeps (b : Bridge) (s : State) :
    (channelTake b s).pending = s.pending ∧ (channelTake b s).phase = s.phase ∧
    (channelTake b s).rstn = s.rstn ∧ (channelTake b s).ticks = s.ticks ∧
    (channelTake b s).law = s.law ∧ (channelTake b s).tables = s.tables ∧
    (channelTake b s).bus = s.bus ∧ (channelTake b s).sel = s.sel ∧
    (channelTake b s).wheels = s.wheels ∧ (channelTake b s).conv = s.conv ∧
    (channelTake b s).port.mem = s.port.mem ∧ (channelTake b s).port.timer = s.port.timer ∧
    (channelTake b s).port.window = s.port.window ∧
    (channelTake b s).port.windowAge = s.port.windowAge ∧
    (channelTake b s).port.opensAtCompletion = s.port.opensAtCompletion ∧
    (channelTake b s).port.holdArmed = s.port.holdArmed ∧
    (channelTake b s).port.deferral = s.port.deferral ∧
    (channelTake b s).port.inProgress = s.port.inProgress ∧
    (channelTake b s).port.held = s.port.held ∧ (channelTake b s).port.adData = s.port.adData ∧
    (channelTake b s).port.enable = s.port.enable ∧ (channelTake b s).port.mode = s.port.mode ∧
    (channelTake b s).port.take = s.port.take ∧ (channelTake b s).port.expected = s.port.expected ∧
    (channelTake b s).port.map = s.port.map ∧ (channelTake b s).port.selection = s.port.selection ∧
    (channelTake b s).port.snapshotNumber = s.port.snapshotNumber := by
  unfold channelTake
  dsimp only
  repeat' split
  all_goals simp

end Sys2Proof.Machine
end

