-- ==== Sys2Proof/Laws/PortFrames.lean ====
section
/-! SUPPORT. What the directives, the window's work and the accesses leave alone. -/

namespace Sys2Proof.Machine

/-- What `enable` leaves alone. -/
@[simp] theorem enable_keeps (s : State) :
    ((enable s).1).pending = s.pending ∧ ((enable s).1).phase = s.phase ∧
    ((enable s).1).rstn = s.rstn ∧ ((enable s).1).ticks = s.ticks ∧ ((enable s).1).law = s.law ∧
    ((enable s).1).bus = s.bus ∧ ((enable s).1).sel = s.sel ∧ ((enable s).1).wheels = s.wheels ∧
    ((enable s).1).conv = s.conv ∧ ((enable s).1).faults = s.faults ∧
    ((enable s).1).port.mem = s.port.mem ∧ ((enable s).1).port.timer = s.port.timer ∧
    ((enable s).1).port.window = s.port.window ∧ ((enable s).1).port.windowAge = s.port.windowAge ∧
    ((enable s).1).port.opensAtCompletion = s.port.opensAtCompletion ∧
    ((enable s).1).port.holdArmed = s.port.holdArmed ∧
    ((enable s).1).port.deferral = s.port.deferral ∧
    ((enable s).1).port.inProgress = s.port.inProgress ∧ ((enable s).1).port.held = s.port.held ∧
    ((enable s).1).port.adData = s.port.adData ∧ ((enable s).1).port.cause = s.port.cause ∧
    ((enable s).1).port.enable = s.port.enable ∧ ((enable s).1).port.mode = s.port.mode ∧
    ((enable s).1).port.take = s.port.take ∧ ((enable s).1).port.expected = s.port.expected ∧
    ((enable s).1).port.map = s.port.map ∧ ((enable s).1).port.selection = s.port.selection ∧
    ((enable s).1).port.snapshotNumber = s.port.snapshotNumber := by
  unfold enable
  repeat' split
  all_goals simp

/-- What `disable` leaves alone. -/
@[simp] theorem disable_keeps (s : State) :
    ((disable s).1).pending = s.pending ∧ ((disable s).1).phase = s.phase ∧
    ((disable s).1).rstn = s.rstn ∧ ((disable s).1).ticks = s.ticks ∧ ((disable s).1).law = s.law ∧
    ((disable s).1).bus = s.bus ∧ ((disable s).1).sel = s.sel ∧ ((disable s).1).wheels = s.wheels ∧
    ((disable s).1).conv = s.conv ∧ ((disable s).1).faults = s.faults ∧
    ((disable s).1).port.mem = s.port.mem ∧ ((disable s).1).port.timer = s.port.timer ∧
    ((disable s).1).port.window = s.port.window ∧
    ((disable s).1).port.windowAge = s.port.windowAge ∧
    ((disable s).1).port.opensAtCompletion = s.port.opensAtCompletion ∧
    ((disable s).1).port.holdArmed = s.port.holdArmed ∧
    ((disable s).1).port.deferral = s.port.deferral ∧
    ((disable s).1).port.inProgress = s.port.inProgress ∧ ((disable s).1).port.held = s.port.held ∧
    ((disable s).1).port.adData = s.port.adData ∧ ((disable s).1).port.cause = s.port.cause ∧
    ((disable s).1).port.enable = s.port.enable ∧ ((disable s).1).port.mode = s.port.mode ∧
    ((disable s).1).port.take = s.port.take ∧ ((disable s).1).port.expected = s.port.expected ∧
    ((disable s).1).port.map = s.port.map ∧ ((disable s).1).port.selection = s.port.selection ∧
    ((disable s).1).port.snapshotNumber = s.port.snapshotNumber := by
  unfold disable
  repeat' split
  all_goals simp

/-- What `recover` leaves alone. -/
@[simp] theorem recover_keeps (s : State) :
    ((recover s).1).pending = s.pending ∧ ((recover s).1).phase = s.phase ∧
    ((recover s).1).rstn = s.rstn ∧ ((recover s).1).ticks = s.ticks ∧ ((recover s).1).law = s.law ∧
    ((recover s).1).bus = s.bus ∧ ((recover s).1).sel = s.sel ∧ ((recover s).1).wheels = s.wheels ∧
    ((recover s).1).conv = s.conv ∧ ((recover s).1).faults = s.faults ∧
    ((recover s).1).port.mem = s.port.mem ∧ ((recover s).1).port.timer = s.port.timer ∧
    ((recover s).1).port.window = s.port.window ∧
    ((recover s).1).port.windowAge = s.port.windowAge ∧
    ((recover s).1).port.opensAtCompletion = s.port.opensAtCompletion ∧
    ((recover s).1).port.holdArmed = s.port.holdArmed ∧
    ((recover s).1).port.deferral = s.port.deferral ∧
    ((recover s).1).port.inProgress = s.port.inProgress ∧ ((recover s).1).port.held = s.port.held ∧
    ((recover s).1).port.adData = s.port.adData ∧ ((recover s).1).port.cause = s.port.cause ∧
    ((recover s).1).port.enable = s.port.enable ∧ ((recover s).1).port.mode = s.port.mode ∧
    ((recover s).1).port.take = s.port.take ∧ ((recover s).1).port.expected = s.port.expected ∧
    ((recover s).1).port.map = s.port.map ∧ ((recover s).1).port.selection = s.port.selection ∧
    ((recover s).1).port.snapshotNumber = s.port.snapshotNumber := by
  unfold recover
  dsimp only
  repeat' split
  all_goals simp

/-- What `lockHold` leaves alone. -/
@[simp] theorem lockHold_keeps (l : List Byte) (s : State) :
    ((lockHold l s).1).pending = s.pending ∧ ((lockHold l s).1).phase = s.phase ∧
    ((lockHold l s).1).rstn = s.rstn ∧ ((lockHold l s).1).ticks = s.ticks ∧
    ((lockHold l s).1).law = s.law ∧ ((lockHold l s).1).tables = s.tables ∧
    ((lockHold l s).1).bus = s.bus ∧ ((lockHold l s).1).sel = s.sel ∧
    ((lockHold l s).1).wheels = s.wheels ∧ ((lockHold l s).1).conv = s.conv ∧
    ((lockHold l s).1).drive = s.drive ∧ ((lockHold l s).1).faults = s.faults ∧
    ((lockHold l s).1).port = s.port := by
  simp [lockHold]

/-- What `load` leaves alone. -/
@[simp] theorem load_keeps (f : Bank → Bank) (n : Nat) (s : State) :
    ((load f n s).1).pending = s.pending ∧ ((load f n s).1).phase = s.phase ∧
    ((load f n s).1).rstn = s.rstn ∧ ((load f n s).1).ticks = s.ticks ∧
    ((load f n s).1).seq = s.seq ∧ ((load f n s).1).law = s.law ∧ ((load f n s).1).bus = s.bus ∧
    ((load f n s).1).sel = s.sel ∧ ((load f n s).1).wheels = s.wheels ∧
    ((load f n s).1).conv = s.conv ∧ ((load f n s).1).drive = s.drive ∧
    ((load f n s).1).faults = s.faults ∧ ((load f n s).1).port = s.port := by
  unfold load
  repeat' split
  all_goals simp

/-- What `loadAxes` leaves alone. -/
@[simp] theorem loadAxes_keeps (l : List Byte) (s : State) :
    ((loadAxes l s).1).pending = s.pending ∧ ((loadAxes l s).1).phase = s.phase ∧
    ((loadAxes l s).1).rstn = s.rstn ∧ ((loadAxes l s).1).ticks = s.ticks ∧
    ((loadAxes l s).1).seq = s.seq ∧ ((loadAxes l s).1).law = s.law ∧
    ((loadAxes l s).1).bus = s.bus ∧ ((loadAxes l s).1).sel = s.sel ∧
    ((loadAxes l s).1).wheels = s.wheels ∧ ((loadAxes l s).1).conv = s.conv ∧
    ((loadAxes l s).1).drive = s.drive ∧ ((loadAxes l s).1).faults = s.faults ∧
    ((loadAxes l s).1).port = s.port := by
  simp [loadAxes]

/-- What `loadMap` leaves alone. -/
@[simp] theorem loadMap_keeps (l : List Byte) (s : State) :
    ((loadMap l s).1).pending = s.pending ∧ ((loadMap l s).1).phase = s.phase ∧
    ((loadMap l s).1).rstn = s.rstn ∧ ((loadMap l s).1).ticks = s.ticks ∧
    ((loadMap l s).1).seq = s.seq ∧ ((loadMap l s).1).law = s.law ∧ ((loadMap l s).1).bus = s.bus ∧
    ((loadMap l s).1).sel = s.sel ∧ ((loadMap l s).1).wheels = s.wheels ∧
    ((loadMap l s).1).conv = s.conv ∧ ((loadMap l s).1).drive = s.drive ∧
    ((loadMap l s).1).faults = s.faults ∧ ((loadMap l s).1).port = s.port := by
  unfold loadMap
  dsimp only
  repeat' split
  all_goals simp

/-- What `loadSchedule` leaves alone. -/
@[simp] theorem loadSchedule_keeps (l : List Byte) (s : State) :
    ((loadSchedule l s).1).pending = s.pending ∧ ((loadSchedule l s).1).phase = s.phase ∧
    ((loadSchedule l s).1).rstn = s.rstn ∧ ((loadSchedule l s).1).ticks = s.ticks ∧
    ((loadSchedule l s).1).seq = s.seq ∧ ((loadSchedule l s).1).law = s.law ∧
    ((loadSchedule l s).1).bus = s.bus ∧ ((loadSchedule l s).1).sel = s.sel ∧
    ((loadSchedule l s).1).wheels = s.wheels ∧ ((loadSchedule l s).1).conv = s.conv ∧
    ((loadSchedule l s).1).drive = s.drive ∧ ((loadSchedule l s).1).faults = s.faults ∧
    ((loadSchedule l s).1).port = s.port := by
  simp [loadSchedule]

/-- What `loadTuning` leaves alone. -/
@[simp] theorem loadTuning_keeps (l : List Byte) (s : State) :
    ((loadTuning l s).1).pending = s.pending ∧ ((loadTuning l s).1).phase = s.phase ∧
    ((loadTuning l s).1).rstn = s.rstn ∧ ((loadTuning l s).1).ticks = s.ticks ∧
    ((loadTuning l s).1).seq = s.seq ∧ ((loadTuning l s).1).law = s.law ∧
    ((loadTuning l s).1).bus = s.bus ∧ ((loadTuning l s).1).sel = s.sel ∧
    ((loadTuning l s).1).wheels = s.wheels ∧ ((loadTuning l s).1).conv = s.conv ∧
    ((loadTuning l s).1).drive = s.drive ∧ ((loadTuning l s).1).faults = s.faults ∧
    ((loadTuning l s).1).port = s.port := by
  simp [loadTuning]

/-- What `commitTables` leaves alone. -/
@[simp] theorem commitTables_keeps (s : State) :
    ((commitTables s).1).pending = s.pending ∧ ((commitTables s).1).phase = s.phase ∧
    ((commitTables s).1).rstn = s.rstn ∧ ((commitTables s).1).ticks = s.ticks ∧
    ((commitTables s).1).seq = s.seq ∧ ((commitTables s).1).law = s.law ∧
    ((commitTables s).1).bus = s.bus ∧ ((commitTables s).1).sel = s.sel ∧
    ((commitTables s).1).wheels = s.wheels ∧ ((commitTables s).1).conv = s.conv ∧
    ((commitTables s).1).drive = s.drive ∧ ((commitTables s).1).faults = s.faults ∧
    ((commitTables s).1).port.mem = s.port.mem ∧ ((commitTables s).1).port.timer = s.port.timer ∧
    ((commitTables s).1).port.window = s.port.window ∧
    ((commitTables s).1).port.windowAge = s.port.windowAge ∧
    ((commitTables s).1).port.opensAtCompletion = s.port.opensAtCompletion ∧
    ((commitTables s).1).port.holdArmed = s.port.holdArmed ∧
    ((commitTables s).1).port.deferral = s.port.deferral ∧
    ((commitTables s).1).port.inProgress = s.port.inProgress ∧
    ((commitTables s).1).port.held = s.port.held ∧
    ((commitTables s).1).port.adData = s.port.adData ∧
    ((commitTables s).1).port.cause = s.port.cause ∧
    ((commitTables s).1).port.enable = s.port.enable ∧
    ((commitTables s).1).port.mode = s.port.mode ∧ ((commitTables s).1).port.take = s.port.take ∧
    ((commitTables s).1).port.expected = s.port.expected ∧
    ((commitTables s).1).port.map = s.port.map ∧
    ((commitTables s).1).port.selection = s.port.selection ∧
    ((commitTables s).1).port.snapshotNumber = s.port.snapshotNumber := by
  unfold commitTables
  dsimp only
  repeat' split
  all_goals simp

/-- What `discardTables` leaves alone. -/
@[simp] theorem discardTables_keeps (s : State) :
    ((discardTables s).1).pending = s.pending ∧ ((discardTables s).1).phase = s.phase ∧
    ((discardTables s).1).rstn = s.rstn ∧ ((discardTables s).1).ticks = s.ticks ∧
    ((discardTables s).1).seq = s.seq ∧ ((discardTables s).1).law = s.law ∧
    ((discardTables s).1).bus = s.bus ∧ ((discardTables s).1).sel = s.sel ∧
    ((discardTables s).1).wheels = s.wheels ∧ ((discardTables s).1).conv = s.conv ∧
    ((discardTables s).1).drive = s.drive ∧ ((discardTables s).1).faults = s.faults ∧
    ((discardTables s).1).port = s.port := by
  unfold discardTables
  dsimp only
  repeat' split
  all_goals simp

/-- What `setDevice` leaves alone. -/
@[simp] theorem setDevice_keeps (l : List Byte) (s : State) :
    ((setDevice l s).1).pending = s.pending ∧ ((setDevice l s).1).phase = s.phase ∧
    ((setDevice l s).1).rstn = s.rstn ∧ ((setDevice l s).1).ticks = s.ticks ∧
    ((setDevice l s).1).seq = s.seq ∧ ((setDevice l s).1).law = s.law ∧
    ((setDevice l s).1).tables = s.tables ∧ ((setDevice l s).1).sel = s.sel ∧
    ((setDevice l s).1).wheels = s.wheels ∧ ((setDevice l s).1).conv = s.conv ∧
    ((setDevice l s).1).drive = s.drive ∧ ((setDevice l s).1).faults = s.faults ∧
    ((setDevice l s).1).port = s.port := by
  unfold setDevice
  dsimp only
  repeat' split
  all_goals simp

/-- What `remapQuantity` leaves alone. -/
@[simp] theorem remapQuantity_keeps (q : Quantity) (l : List Byte) (s : State) :
    ((remapQuantity q l s).1).pending = s.pending ∧ ((remapQuantity q l s).1).phase = s.phase ∧
    ((remapQuantity q l s).1).rstn = s.rstn ∧ ((remapQuantity q l s).1).ticks = s.ticks ∧
    ((remapQuantity q l s).1).seq = s.seq ∧ ((remapQuantity q l s).1).law = s.law ∧
    ((remapQuantity q l s).1).tables = s.tables ∧ ((remapQuantity q l s).1).bus = s.bus ∧
    ((remapQuantity q l s).1).wheels = s.wheels ∧ ((remapQuantity q l s).1).conv = s.conv ∧
    ((remapQuantity q l s).1).drive = s.drive ∧ ((remapQuantity q l s).1).faults = s.faults ∧
    ((remapQuantity q l s).1).port = s.port := by
  simp [remapQuantity]

/-- What `setSources` leaves alone. -/
@[simp] theorem setSources_keeps (l : List Byte) (s : State) :
    ((setSources l s).1).pending = s.pending ∧ ((setSources l s).1).phase = s.phase ∧
    ((setSources l s).1).rstn = s.rstn ∧ ((setSources l s).1).ticks = s.ticks ∧
    ((setSources l s).1).seq = s.seq ∧ ((setSources l s).1).law = s.law ∧
    ((setSources l s).1).tables = s.tables ∧ ((setSources l s).1).bus = s.bus ∧
    ((setSources l s).1).wheels = s.wheels ∧ ((setSources l s).1).conv = s.conv ∧
    ((setSources l s).1).drive = s.drive ∧ ((setSources l s).1).faults = s.faults ∧
    ((setSources l s).1).port.mem = s.port.mem ∧ ((setSources l s).1).port.timer = s.port.timer ∧
    ((setSources l s).1).port.window = s.port.window ∧
    ((setSources l s).1).port.windowAge = s.port.windowAge ∧
    ((setSources l s).1).port.opensAtCompletion = s.port.opensAtCompletion ∧
    ((setSources l s).1).port.holdArmed = s.port.holdArmed ∧
    ((setSources l s).1).port.deferral = s.port.deferral ∧
    ((setSources l s).1).port.inProgress = s.port.inProgress ∧
    ((setSources l s).1).port.held = s.port.held ∧
    ((setSources l s).1).port.adData = s.port.adData ∧
    ((setSources l s).1).port.cause = s.port.cause ∧
    ((setSources l s).1).port.enable = s.port.enable ∧
    ((setSources l s).1).port.mode = s.port.mode ∧ ((setSources l s).1).port.take = s.port.take ∧
    ((setSources l s).1).port.expected = s.port.expected ∧
    ((setSources l s).1).port.map = s.port.map ∧
    ((setSources l s).1).port.selection = s.port.selection ∧
    ((setSources l s).1).port.snapshotNumber = s.port.snapshotNumber := by
  unfold setSources
  dsimp only
  repeat' split
  all_goals simp

/-- What `setWheel` leaves alone. -/
@[simp] theorem setWheel_keeps (l : List Byte) (s : State) :
    ((setWheel l s).1).pending = s.pending ∧ ((setWheel l s).1).phase = s.phase ∧
    ((setWheel l s).1).rstn = s.rstn ∧ ((setWheel l s).1).ticks = s.ticks ∧
    ((setWheel l s).1).seq = s.seq ∧ ((setWheel l s).1).law = s.law ∧
    ((setWheel l s).1).tables = s.tables ∧ ((setWheel l s).1).bus = s.bus ∧
    ((setWheel l s).1).sel = s.sel ∧ ((setWheel l s).1).conv = s.conv ∧
    ((setWheel l s).1).drive = s.drive ∧ ((setWheel l s).1).faults = s.faults ∧
    ((setWheel l s).1).port = s.port := by
  unfold setWheel
  dsimp only
  repeat' split
  all_goals simp

/-- What `setBusSpeed` leaves alone. -/
@[simp] theorem setBusSpeed_keeps (l : List Byte) (s : State) :
    ((setBusSpeed l s).1).pending = s.pending ∧ ((setBusSpeed l s).1).phase = s.phase ∧
    ((setBusSpeed l s).1).rstn = s.rstn ∧ ((setBusSpeed l s).1).ticks = s.ticks ∧
    ((setBusSpeed l s).1).seq = s.seq ∧ ((setBusSpeed l s).1).law = s.law ∧
    ((setBusSpeed l s).1).tables = s.tables ∧ ((setBusSpeed l s).1).sel = s.sel ∧
    ((setBusSpeed l s).1).wheels = s.wheels ∧ ((setBusSpeed l s).1).conv = s.conv ∧
    ((setBusSpeed l s).1).drive = s.drive ∧ ((setBusSpeed l s).1).faults = s.faults ∧
    ((setBusSpeed l s).1).port = s.port := by
  unfold setBusSpeed
  dsimp only
  repeat' split
  all_goals simp

/-- What `setFaultPolicy` leaves alone. -/
@[simp] theorem setFaultPolicy_keeps (l : List Byte) (s : State) :
    ((setFaultPolicy l s).1).pending = s.pending ∧ ((setFaultPolicy l s).1).phase = s.phase ∧
    ((setFaultPolicy l s).1).rstn = s.rstn ∧ ((setFaultPolicy l s).1).ticks = s.ticks ∧
    ((setFaultPolicy l s).1).seq = s.seq ∧ ((setFaultPolicy l s).1).law = s.law ∧
    ((setFaultPolicy l s).1).tables = s.tables ∧ ((setFaultPolicy l s).1).bus = s.bus ∧
    ((setFaultPolicy l s).1).sel = s.sel ∧ ((setFaultPolicy l s).1).wheels = s.wheels ∧
    ((setFaultPolicy l s).1).conv = s.conv ∧ ((setFaultPolicy l s).1).drive = s.drive ∧
    ((setFaultPolicy l s).1).port = s.port := by
  unfold setFaultPolicy
  repeat' split
  all_goals simp

/-- What `ackFault` leaves alone. -/
@[simp] theorem ackFault_keeps (l : List Byte) (s : State) :
    ((ackFault l s).1).pending = s.pending ∧ ((ackFault l s).1).phase = s.phase ∧
    ((ackFault l s).1).rstn = s.rstn ∧ ((ackFault l s).1).ticks = s.ticks ∧
    ((ackFault l s).1).seq = s.seq ∧ ((ackFault l s).1).law = s.law ∧
    ((ackFault l s).1).tables = s.tables ∧ ((ackFault l s).1).bus = s.bus ∧
    ((ackFault l s).1).sel = s.sel ∧ ((ackFault l s).1).wheels = s.wheels ∧
    ((ackFault l s).1).conv = s.conv ∧ ((ackFault l s).1).drive = s.drive ∧
    ((ackFault l s).1).port = s.port := by
  unfold ackFault
  split
  · simp
  · dsimp only
    split <;> simp

/-- What `clearFault` leaves alone. -/
@[simp] theorem clearFault_keeps (l : List Byte) (s : State) :
    ((clearFault l s).1).pending = s.pending ∧ ((clearFault l s).1).phase = s.phase ∧
    ((clearFault l s).1).rstn = s.rstn ∧ ((clearFault l s).1).ticks = s.ticks ∧
    ((clearFault l s).1).seq = s.seq ∧ ((clearFault l s).1).law = s.law ∧
    ((clearFault l s).1).tables = s.tables ∧ ((clearFault l s).1).bus = s.bus ∧
    ((clearFault l s).1).sel = s.sel ∧ ((clearFault l s).1).wheels = s.wheels ∧
    ((clearFault l s).1).conv = s.conv ∧ ((clearFault l s).1).port.mem = s.port.mem ∧
    ((clearFault l s).1).port.timer = s.port.timer ∧
    ((clearFault l s).1).port.window = s.port.window ∧
    ((clearFault l s).1).port.windowAge = s.port.windowAge ∧
    ((clearFault l s).1).port.opensAtCompletion = s.port.opensAtCompletion ∧
    ((clearFault l s).1).port.holdArmed = s.port.holdArmed ∧
    ((clearFault l s).1).port.deferral = s.port.deferral ∧
    ((clearFault l s).1).port.inProgress = s.port.inProgress ∧
    ((clearFault l s).1).port.held = s.port.held ∧
    ((clearFault l s).1).port.adData = s.port.adData ∧
    ((clearFault l s).1).port.cause = s.port.cause ∧
    ((clearFault l s).1).port.enable = s.port.enable ∧
    ((clearFault l s).1).port.mode = s.port.mode ∧ ((clearFault l s).1).port.take = s.port.take ∧
    ((clearFault l s).1).port.expected = s.port.expected ∧
    ((clearFault l s).1).port.map = s.port.map ∧
    ((clearFault l s).1).port.selection = s.port.selection ∧
    ((clearFault l s).1).port.snapshotNumber = s.port.snapshotNumber := by
  unfold clearFault
  repeat' split
  all_goals simp

/-- What `passThrough` leaves alone. -/
@[simp] theorem passThrough_keeps (t : Byte) (l : List Byte) (s : State) :
    ((passThrough t l s).1).pending = s.pending ∧ ((passThrough t l s).1).phase = s.phase ∧
    ((passThrough t l s).1).rstn = s.rstn ∧ ((passThrough t l s).1).ticks = s.ticks ∧
    ((passThrough t l s).1).seq = s.seq ∧ ((passThrough t l s).1).law = s.law ∧
    ((passThrough t l s).1).tables = s.tables ∧ ((passThrough t l s).1).sel = s.sel ∧
    ((passThrough t l s).1).wheels = s.wheels ∧ ((passThrough t l s).1).conv = s.conv ∧
    ((passThrough t l s).1).drive = s.drive ∧ ((passThrough t l s).1).faults = s.faults ∧
    ((passThrough t l s).1).port = s.port := by
  unfold passThrough
  dsimp only
  repeat' split
  all_goals simp

/-- What `setTrace` leaves alone. -/
@[simp] theorem setTrace_keeps (l : List Byte) (s : State) :
    ((setTrace l s).1).pending = s.pending ∧ ((setTrace l s).1).phase = s.phase ∧
    ((setTrace l s).1).rstn = s.rstn ∧ ((setTrace l s).1).ticks = s.ticks ∧
    ((setTrace l s).1).seq = s.seq ∧ ((setTrace l s).1).law = s.law ∧
    ((setTrace l s).1).tables = s.tables ∧ ((setTrace l s).1).bus = s.bus ∧
    ((setTrace l s).1).sel = s.sel ∧ ((setTrace l s).1).wheels = s.wheels ∧
    ((setTrace l s).1).conv = s.conv ∧ ((setTrace l s).1).drive = s.drive ∧
    ((setTrace l s).1).faults = s.faults ∧ ((setTrace l s).1).port.mem = s.port.mem ∧
    ((setTrace l s).1).port.timer = s.port.timer ∧ ((setTrace l s).1).port.window = s.port.window ∧
    ((setTrace l s).1).port.windowAge = s.port.windowAge ∧
    ((setTrace l s).1).port.opensAtCompletion = s.port.opensAtCompletion ∧
    ((setTrace l s).1).port.holdArmed = s.port.holdArmed ∧
    ((setTrace l s).1).port.deferral = s.port.deferral ∧
    ((setTrace l s).1).port.inProgress = s.port.inProgress ∧
    ((setTrace l s).1).port.held = s.port.held ∧ ((setTrace l s).1).port.adData = s.port.adData ∧
    ((setTrace l s).1).port.cause = s.port.cause ∧ ((setTrace l s).1).port.enable = s.port.enable ∧
    ((setTrace l s).1).port.mode = s.port.mode ∧ ((setTrace l s).1).port.take = s.port.take ∧
    ((setTrace l s).1).port.expected = s.port.expected ∧ ((setTrace l s).1).port.map = s.port.map ∧
    ((setTrace l s).1).port.snapshotNumber = s.port.snapshotNumber := by
  simp [setTrace]

/-- What `setReportMap` leaves alone. -/
@[simp] theorem setReportMap_keeps (l : List Byte) (s : State) :
    ((setReportMap l s).1).pending = s.pending ∧ ((setReportMap l s).1).phase = s.phase ∧
    ((setReportMap l s).1).rstn = s.rstn ∧ ((setReportMap l s).1).ticks = s.ticks ∧
    ((setReportMap l s).1).seq = s.seq ∧ ((setReportMap l s).1).law = s.law ∧
    ((setReportMap l s).1).tables = s.tables ∧ ((setReportMap l s).1).bus = s.bus ∧
    ((setReportMap l s).1).sel = s.sel ∧ ((setReportMap l s).1).wheels = s.wheels ∧
    ((setReportMap l s).1).conv = s.conv ∧ ((setReportMap l s).1).drive = s.drive ∧
    ((setReportMap l s).1).faults = s.faults ∧ ((setReportMap l s).1).port.mem = s.port.mem ∧
    ((setReportMap l s).1).port.timer = s.port.timer ∧
    ((setReportMap l s).1).port.window = s.port.window ∧
    ((setReportMap l s).1).port.windowAge = s.port.windowAge ∧
    ((setReportMap l s).1).port.opensAtCompletion = s.port.opensAtCompletion ∧
    ((setReportMap l s).1).port.holdArmed = s.port.holdArmed ∧
    ((setReportMap l s).1).port.deferral = s.port.deferral ∧
    ((setReportMap l s).1).port.inProgress = s.port.inProgress ∧
    ((setReportMap l s).1).port.held = s.port.held ∧
    ((setReportMap l s).1).port.adData = s.port.adData ∧
    ((setReportMap l s).1).port.cause = s.port.cause ∧
    ((setReportMap l s).1).port.enable = s.port.enable ∧
    ((setReportMap l s).1).port.mode = s.port.mode ∧
    ((setReportMap l s).1).port.take = s.port.take ∧
    ((setReportMap l s).1).port.expected = s.port.expected ∧
    ((setReportMap l s).1).port.selection = s.port.selection ∧
    ((setReportMap l s).1).port.snapshotNumber = s.port.snapshotNumber := by
  simp [setReportMap]

/-- What `deliver` leaves alone. -/
@[simp] theorem deliver_keeps (d : Directive) (t : Byte) (l : List Byte) (s : State) :
    ((deliver d t l s).1).pending = s.pending ∧ ((deliver d t l s).1).phase = s.phase ∧
    ((deliver d t l s).1).rstn = s.rstn ∧ ((deliver d t l s).1).ticks = s.ticks ∧
    ((deliver d t l s).1).law = s.law ∧ ((deliver d t l s).1).conv = s.conv ∧
    ((deliver d t l s).1).port.mem = s.port.mem ∧ ((deliver d t l s).1).port.timer = s.port.timer ∧
    ((deliver d t l s).1).port.window = s.port.window ∧
    ((deliver d t l s).1).port.windowAge = s.port.windowAge ∧
    ((deliver d t l s).1).port.opensAtCompletion = s.port.opensAtCompletion ∧
    ((deliver d t l s).1).port.holdArmed = s.port.holdArmed ∧
    ((deliver d t l s).1).port.deferral = s.port.deferral ∧
    ((deliver d t l s).1).port.inProgress = s.port.inProgress ∧
    ((deliver d t l s).1).port.held = s.port.held ∧
    ((deliver d t l s).1).port.adData = s.port.adData ∧
    ((deliver d t l s).1).port.cause = s.port.cause ∧
    ((deliver d t l s).1).port.enable = s.port.enable ∧
    ((deliver d t l s).1).port.mode = s.port.mode ∧ ((deliver d t l s).1).port.take = s.port.take ∧
    ((deliver d t l s).1).port.expected = s.port.expected ∧
    ((deliver d t l s).1).port.snapshotNumber = s.port.snapshotNumber := by
  cases d <;> simp [deliver, answered]

/-- What `decodeAndDeliver` leaves alone. -/
@[simp] theorem decodeAndDeliver_keeps (k t : Byte) (l : List Byte) (s : State) :
    ((decodeAndDeliver k t l s).1).pending = s.pending ∧
    ((decodeAndDeliver k t l s).1).phase = s.phase ∧ ((decodeAndDeliver k t l s).1).rstn = s.rstn ∧
    ((decodeAndDeliver k t l s).1).ticks = s.ticks ∧ ((decodeAndDeliver k t l s).1).law = s.law ∧
    ((decodeAndDeliver k t l s).1).conv = s.conv ∧
    ((decodeAndDeliver k t l s).1).port.mem = s.port.mem ∧
    ((decodeAndDeliver k t l s).1).port.timer = s.port.timer ∧
    ((decodeAndDeliver k t l s).1).port.window = s.port.window ∧
    ((decodeAndDeliver k t l s).1).port.windowAge = s.port.windowAge ∧
    ((decodeAndDeliver k t l s).1).port.opensAtCompletion = s.port.opensAtCompletion ∧
    ((decodeAndDeliver k t l s).1).port.holdArmed = s.port.holdArmed ∧
    ((decodeAndDeliver k t l s).1).port.deferral = s.port.deferral ∧
    ((decodeAndDeliver k t l s).1).port.inProgress = s.port.inProgress ∧
    ((decodeAndDeliver k t l s).1).port.held = s.port.held ∧
    ((decodeAndDeliver k t l s).1).port.adData = s.port.adData ∧
    ((decodeAndDeliver k t l s).1).port.cause = s.port.cause ∧
    ((decodeAndDeliver k t l s).1).port.enable = s.port.enable ∧
    ((decodeAndDeliver k t l s).1).port.mode = s.port.mode ∧
    ((decodeAndDeliver k t l s).1).port.take = s.port.take ∧
    ((decodeAndDeliver k t l s).1).port.expected = s.port.expected ∧
    ((decodeAndDeliver k t l s).1).port.snapshotNumber = s.port.snapshotNumber := by
  unfold decodeAndDeliver
  repeat' split
  all_goals simp

/-- What `stageDone` leaves alone. -/
@[simp] theorem stageDone_keeps (k t : Byte) (d : Option Done) (s : State) :
    (stageDone k t d s).pending = s.pending ∧ (stageDone k t d s).phase = s.phase ∧
    (stageDone k t d s).rstn = s.rstn ∧ (stageDone k t d s).ticks = s.ticks ∧
    (stageDone k t d s).seq = s.seq ∧ (stageDone k t d s).law = s.law ∧
    (stageDone k t d s).tables = s.tables ∧ (stageDone k t d s).bus = s.bus ∧
    (stageDone k t d s).sel = s.sel ∧ (stageDone k t d s).wheels = s.wheels ∧
    (stageDone k t d s).conv = s.conv ∧ (stageDone k t d s).drive = s.drive ∧
    (stageDone k t d s).faults = s.faults ∧ (stageDone k t d s).port.mem = s.port.mem ∧
    (stageDone k t d s).port.timer = s.port.timer ∧
    (stageDone k t d s).port.window = s.port.window ∧
    (stageDone k t d s).port.windowAge = s.port.windowAge ∧
    (stageDone k t d s).port.opensAtCompletion = s.port.opensAtCompletion ∧
    (stageDone k t d s).port.holdArmed = s.port.holdArmed ∧
    (stageDone k t d s).port.deferral = s.port.deferral ∧
    (stageDone k t d s).port.inProgress = s.port.inProgress ∧
    (stageDone k t d s).port.held = s.port.held ∧ (stageDone k t d s).port.adData = s.port.adData ∧
    (stageDone k t d s).port.cause = s.port.cause ∧
    (stageDone k t d s).port.enable = s.port.enable ∧ (stageDone k t d s).port.mode = s.port.mode ∧
    (stageDone k t d s).port.take = s.port.take ∧
    (stageDone k t d s).port.expected = s.port.expected ∧
    (stageDone k t d s).port.map = s.port.map ∧
    (stageDone k t d s).port.selection = s.port.selection ∧
    (stageDone k t d s).port.snapshotNumber = s.port.snapshotNumber := by
  unfold stageDone
  repeat' split
  all_goals simp

/-- What `takeInPlace` leaves alone. -/
@[simp] theorem takeInPlace_keeps (l : List Byte) (s : State) :
    (takeInPlace l s).pending = s.pending ∧ (takeInPlace l s).phase = s.phase ∧
    (takeInPlace l s).rstn = s.rstn ∧ (takeInPlace l s).ticks = s.ticks ∧
    (takeInPlace l s).law = s.law ∧ (takeInPlace l s).conv = s.conv ∧
    (takeInPlace l s).port.mem = s.port.mem ∧ (takeInPlace l s).port.timer = s.port.timer ∧
    (takeInPlace l s).port.window = s.port.window ∧
    (takeInPlace l s).port.windowAge = s.port.windowAge ∧
    (takeInPlace l s).port.opensAtCompletion = s.port.opensAtCompletion ∧
    (takeInPlace l s).port.holdArmed = s.port.holdArmed ∧
    (takeInPlace l s).port.deferral = s.port.deferral ∧
    (takeInPlace l s).port.inProgress = s.port.inProgress ∧
    (takeInPlace l s).port.held = s.port.held ∧ (takeInPlace l s).port.adData = s.port.adData ∧
    (takeInPlace l s).port.cause = s.port.cause ∧ (takeInPlace l s).port.enable = s.port.enable ∧
    (takeInPlace l s).port.mode = s.port.mode ∧ (takeInPlace l s).port.take = s.port.take ∧
    (takeInPlace l s).port.expected = s.port.expected ∧
    (takeInPlace l s).port.snapshotNumber = s.port.snapshotNumber := by
  simp [takeInPlace]

/-- What `refuseFrame` leaves alone. -/
@[simp] theorem refuseFrame_keeps (a : Answer) (l : List Word) (s : State) :
    (refuseFrame a l s).pending = s.pending ∧ (refuseFrame a l s).phase = s.phase ∧
    (refuseFrame a l s).rstn = s.rstn ∧ (refuseFrame a l s).ticks = s.ticks ∧
    (refuseFrame a l s).seq = s.seq ∧ (refuseFrame a l s).law = s.law ∧
    (refuseFrame a l s).tables = s.tables ∧ (refuseFrame a l s).bus = s.bus ∧
    (refuseFrame a l s).sel = s.sel ∧ (refuseFrame a l s).wheels = s.wheels ∧
    (refuseFrame a l s).conv = s.conv ∧ (refuseFrame a l s).drive = s.drive ∧
    (refuseFrame a l s).faults = s.faults ∧ (refuseFrame a l s).port.mem = s.port.mem ∧
    (refuseFrame a l s).port.timer = s.port.timer ∧
    (refuseFrame a l s).port.window = s.port.window ∧
    (refuseFrame a l s).port.windowAge = s.port.windowAge ∧
    (refuseFrame a l s).port.opensAtCompletion = s.port.opensAtCompletion ∧
    (refuseFrame a l s).port.holdArmed = s.port.holdArmed ∧
    (refuseFrame a l s).port.deferral = s.port.deferral ∧
    (refuseFrame a l s).port.inProgress = s.port.inProgress ∧
    (refuseFrame a l s).port.held = s.port.held ∧ (refuseFrame a l s).port.adData = s.port.adData ∧
    (refuseFrame a l s).port.cause = s.port.cause ∧
    (refuseFrame a l s).port.enable = s.port.enable ∧ (refuseFrame a l s).port.mode = s.port.mode ∧
    (refuseFrame a l s).port.take = s.port.take ∧
    (refuseFrame a l s).port.expected = s.port.expected ∧
    (refuseFrame a l s).port.map = s.port.map ∧
    (refuseFrame a l s).port.selection = s.port.selection ∧
    (refuseFrame a l s).port.snapshotNumber = s.port.snapshotNumber := by
  simp [refuseFrame]

/-- What `judgeFrame` leaves alone. -/
@[simp] theorem judgeFrame_keeps (s : State) :
    (judgeFrame s).pending = s.pending ∧ (judgeFrame s).phase = s.phase ∧
    (judgeFrame s).rstn = s.rstn ∧ (judgeFrame s).ticks = s.ticks ∧ (judgeFrame s).law = s.law ∧
    (judgeFrame s).conv = s.conv ∧ (judgeFrame s).port.mem = s.port.mem ∧
    (judgeFrame s).port.timer = s.port.timer ∧ (judgeFrame s).port.window = s.port.window ∧
    (judgeFrame s).port.windowAge = s.port.windowAge ∧
    (judgeFrame s).port.opensAtCompletion = s.port.opensAtCompletion ∧
    (judgeFrame s).port.holdArmed = s.port.holdArmed ∧
    (judgeFrame s).port.deferral = s.port.deferral ∧
    (judgeFrame s).port.inProgress = s.port.inProgress ∧ (judgeFrame s).port.held = s.port.held ∧
    (judgeFrame s).port.adData = s.port.adData ∧ (judgeFrame s).port.cause = s.port.cause ∧
    (judgeFrame s).port.enable = s.port.enable ∧ (judgeFrame s).port.mode = s.port.mode ∧
    (judgeFrame s).port.take = s.port.take ∧
    (judgeFrame s).port.snapshotNumber = s.port.snapshotNumber := by
  unfold judgeFrame
  dsimp only
  repeat' split
  all_goals simp

/-- What `takeFrame` leaves alone. -/
@[simp] theorem takeFrame_keeps (s : State) :
    (takeFrame s).pending = s.pending ∧ (takeFrame s).phase = s.phase ∧
    (takeFrame s).rstn = s.rstn ∧ (takeFrame s).ticks = s.ticks ∧ (takeFrame s).law = s.law ∧
    (takeFrame s).conv = s.conv ∧ (takeFrame s).port.mem = s.port.mem ∧
    (takeFrame s).port.timer = s.port.timer ∧ (takeFrame s).port.window = s.port.window ∧
    (takeFrame s).port.windowAge = s.port.windowAge ∧
    (takeFrame s).port.opensAtCompletion = s.port.opensAtCompletion ∧
    (takeFrame s).port.holdArmed = s.port.holdArmed ∧
    (takeFrame s).port.deferral = s.port.deferral ∧
    (takeFrame s).port.inProgress = s.port.inProgress ∧ (takeFrame s).port.held = s.port.held ∧
    (takeFrame s).port.adData = s.port.adData ∧ (takeFrame s).port.cause = s.port.cause ∧
    (takeFrame s).port.enable = s.port.enable ∧ (takeFrame s).port.mode = s.port.mode ∧
    (takeFrame s).port.snapshotNumber = s.port.snapshotNumber := by
  simp [takeFrame]

/-- What `takeFrames` leaves alone. -/
@[simp] theorem takeFrames_keeps (n : Nat) (c : Word) (s : State) :
    (takeFrames n c s).pending = s.pending ∧ (takeFrames n c s).phase = s.phase ∧
    (takeFrames n c s).rstn = s.rstn ∧ (takeFrames n c s).ticks = s.ticks ∧
    (takeFrames n c s).law = s.law ∧ (takeFrames n c s).conv = s.conv ∧
    (takeFrames n c s).port.mem = s.port.mem ∧ (takeFrames n c s).port.timer = s.port.timer ∧
    (takeFrames n c s).port.window = s.port.window ∧
    (takeFrames n c s).port.windowAge = s.port.windowAge ∧
    (takeFrames n c s).port.opensAtCompletion = s.port.opensAtCompletion ∧
    (takeFrames n c s).port.holdArmed = s.port.holdArmed ∧
    (takeFrames n c s).port.deferral = s.port.deferral ∧
    (takeFrames n c s).port.inProgress = s.port.inProgress ∧
    (takeFrames n c s).port.held = s.port.held ∧ (takeFrames n c s).port.adData = s.port.adData ∧
    (takeFrames n c s).port.cause = s.port.cause ∧ (takeFrames n c s).port.enable = s.port.enable ∧
    (takeFrames n c s).port.mode = s.port.mode ∧
    (takeFrames n c s).port.snapshotNumber = s.port.snapshotNumber := by
  induction n generalizing s with
  | zero => simp [takeFrames]
  | succ n ih =>
    unfold takeFrames
    split <;> simp [ih]

/-- What `overrun` leaves alone. -/
@[simp] theorem overrun_keeps (c : Word) (s : State) :
    (overrun c s).pending = s.pending ∧ (overrun c s).phase = s.phase ∧
    (overrun c s).rstn = s.rstn ∧ (overrun c s).ticks = s.ticks ∧ (overrun c s).law = s.law ∧
    (overrun c s).tables = s.tables ∧ (overrun c s).bus = s.bus ∧ (overrun c s).sel = s.sel ∧
    (overrun c s).wheels = s.wheels ∧ (overrun c s).conv = s.conv ∧
    (overrun c s).port.mem = s.port.mem ∧ (overrun c s).port.timer = s.port.timer ∧
    (overrun c s).port.window = s.port.window ∧ (overrun c s).port.windowAge = s.port.windowAge ∧
    (overrun c s).port.opensAtCompletion = s.port.opensAtCompletion ∧
    (overrun c s).port.holdArmed = s.port.holdArmed ∧
    (overrun c s).port.deferral = s.port.deferral ∧
    (overrun c s).port.inProgress = s.port.inProgress ∧ (overrun c s).port.held = s.port.held ∧
    (overrun c s).port.adData = s.port.adData ∧ (overrun c s).port.enable = s.port.enable ∧
    (overrun c s).port.mode = s.port.mode ∧ (overrun c s).port.map = s.port.map ∧
    (overrun c s).port.selection = s.port.selection ∧
    (overrun c s).port.snapshotNumber = s.port.snapshotNumber := by
  simp [overrun]

/-- What `intakeUpTo` leaves alone. -/
@[simp] theorem intakeUpTo_keeps (n : Nat) (c : Word) (s : State) :
    (intakeUpTo n c s).pending = s.pending ∧ (intakeUpTo n c s).phase = s.phase ∧ (intakeUpTo n c s).rstn = s.rstn ∧
    (intakeUpTo n c s).ticks = s.ticks ∧ (intakeUpTo n c s).law = s.law ∧ (intakeUpTo n c s).conv = s.conv ∧
    (intakeUpTo n c s).port.mem = s.port.mem ∧ (intakeUpTo n c s).port.timer = s.port.timer ∧
    (intakeUpTo n c s).port.window = s.port.window ∧ (intakeUpTo n c s).port.windowAge = s.port.windowAge ∧
    (intakeUpTo n c s).port.opensAtCompletion = s.port.opensAtCompletion ∧
    (intakeUpTo n c s).port.holdArmed = s.port.holdArmed ∧ (intakeUpTo n c s).port.deferral = s.port.deferral ∧
    (intakeUpTo n c s).port.inProgress = s.port.inProgress ∧ (intakeUpTo n c s).port.held = s.port.held ∧
    (intakeUpTo n c s).port.adData = s.port.adData ∧ (intakeUpTo n c s).port.enable = s.port.enable ∧
    (intakeUpTo n c s).port.mode = s.port.mode ∧
    (intakeUpTo n c s).port.snapshotNumber = s.port.snapshotNumber := by
  unfold intakeUpTo
  repeat' split
  all_goals simp

/-- What `writeOwned` leaves alone. -/
@[simp] theorem writeOwned_keeps (s : State) :
    (writeOwned s).pending = s.pending ∧ (writeOwned s).phase = s.phase ∧
    (writeOwned s).rstn = s.rstn ∧ (writeOwned s).ticks = s.ticks ∧ (writeOwned s).seq = s.seq ∧
    (writeOwned s).law = s.law ∧ (writeOwned s).tables = s.tables ∧ (writeOwned s).bus = s.bus ∧
    (writeOwned s).sel = s.sel ∧ (writeOwned s).wheels = s.wheels ∧ (writeOwned s).conv = s.conv ∧
    (writeOwned s).drive = s.drive ∧ (writeOwned s).faults = s.faults ∧
    (writeOwned s).port.timer = s.port.timer ∧ (writeOwned s).port.window = s.port.window ∧
    (writeOwned s).port.windowAge = s.port.windowAge ∧
    (writeOwned s).port.opensAtCompletion = s.port.opensAtCompletion ∧
    (writeOwned s).port.holdArmed = s.port.holdArmed ∧
    (writeOwned s).port.deferral = s.port.deferral ∧
    (writeOwned s).port.inProgress = s.port.inProgress ∧ (writeOwned s).port.held = s.port.held ∧
    (writeOwned s).port.adData = s.port.adData ∧ (writeOwned s).port.cause = s.port.cause ∧
    (writeOwned s).port.enable = s.port.enable ∧ (writeOwned s).port.mode = s.port.mode ∧
    (writeOwned s).port.take = s.port.take ∧ (writeOwned s).port.expected = s.port.expected ∧
    (writeOwned s).port.map = s.port.map ∧ (writeOwned s).port.selection = s.port.selection := by
  simp [writeOwned]

/-- What `setCauseIf` leaves alone. -/
@[simp] theorem setCauseIf_keeps (b : Bool) (c : Cause) (s : State) :
    (setCauseIf b c s).pending = s.pending ∧ (setCauseIf b c s).phase = s.phase ∧
    (setCauseIf b c s).rstn = s.rstn ∧ (setCauseIf b c s).ticks = s.ticks ∧
    (setCauseIf b c s).seq = s.seq ∧ (setCauseIf b c s).law = s.law ∧
    (setCauseIf b c s).tables = s.tables ∧ (setCauseIf b c s).bus = s.bus ∧
    (setCauseIf b c s).sel = s.sel ∧ (setCauseIf b c s).wheels = s.wheels ∧
    (setCauseIf b c s).conv = s.conv ∧ (setCauseIf b c s).drive = s.drive ∧
    (setCauseIf b c s).faults = s.faults ∧ (setCauseIf b c s).port.mem = s.port.mem ∧
    (setCauseIf b c s).port.timer = s.port.timer ∧ (setCauseIf b c s).port.window = s.port.window ∧
    (setCauseIf b c s).port.windowAge = s.port.windowAge ∧
    (setCauseIf b c s).port.opensAtCompletion = s.port.opensAtCompletion ∧
    (setCauseIf b c s).port.holdArmed = s.port.holdArmed ∧
    (setCauseIf b c s).port.deferral = s.port.deferral ∧
    (setCauseIf b c s).port.inProgress = s.port.inProgress ∧
    (setCauseIf b c s).port.held = s.port.held ∧ (setCauseIf b c s).port.adData = s.port.adData ∧
    (setCauseIf b c s).port.enable = s.port.enable ∧ (setCauseIf b c s).port.mode = s.port.mode ∧
    (setCauseIf b c s).port.take = s.port.take ∧
    (setCauseIf b c s).port.expected = s.port.expected ∧ (setCauseIf b c s).port.map = s.port.map ∧
    (setCauseIf b c s).port.selection = s.port.selection ∧
    (setCauseIf b c s).port.snapshotNumber = s.port.snapshotNumber := by
  unfold setCauseIf
  repeat' split
  all_goals simp

/-- What `closeWindow` leaves alone. -/
@[simp] theorem closeWindow_keeps (s : State) :
    (closeWindow s).pending = s.pending ∧ (closeWindow s).phase = s.phase ∧
    (closeWindow s).rstn = s.rstn ∧ (closeWindow s).ticks = s.ticks ∧ (closeWindow s).seq = s.seq ∧
    (closeWindow s).law = s.law ∧ (closeWindow s).tables = s.tables ∧ (closeWindow s).bus = s.bus ∧
    (closeWindow s).sel = s.sel ∧ (closeWindow s).wheels = s.wheels ∧
    (closeWindow s).conv = s.conv ∧ (closeWindow s).drive = s.drive ∧
    (closeWindow s).faults = s.faults := by
  simp [closeWindow]

/-- What `windowWork` leaves alone. -/
@[simp] theorem windowWork_keeps (n : Nat) (s : State) :
    (windowWork n s).pending = s.pending ∧ (windowWork n s).phase = s.phase ∧
    (windowWork n s).rstn = s.rstn ∧ (windowWork n s).ticks = s.ticks ∧
    (windowWork n s).law = s.law ∧ (windowWork n s).conv = s.conv := by
  unfold windowWork
  dsimp only
  repeat' split
  all_goals simp

/-- What `abandonWindow` leaves alone. -/
@[simp] theorem abandonWindow_keeps (s : State) :
    (abandonWindow s).pending = s.pending ∧ (abandonWindow s).phase = s.phase ∧
    (abandonWindow s).rstn = s.rstn ∧ (abandonWindow s).ticks = s.ticks ∧
    (abandonWindow s).law = s.law ∧ (abandonWindow s).conv = s.conv := by
  unfold abandonWindow
  dsimp only
  split <;> simp

/-- What `runWindow` leaves alone. -/
@[simp] theorem runWindow_keeps (s : State) :
    (runWindow s).pending = s.pending ∧ (runWindow s).phase = s.phase ∧
    (runWindow s).rstn = s.rstn ∧ (runWindow s).ticks = s.ticks ∧ (runWindow s).law = s.law ∧
    (runWindow s).conv = s.conv := by
  simp [runWindow]

/-- What `collide` leaves alone. -/
@[simp] theorem collide_keeps (a : Access) (s : State) :
    (collide a s).pending = s.pending ∧ (collide a s).phase = s.phase ∧
    (collide a s).rstn = s.rstn ∧ (collide a s).ticks = s.ticks ∧ (collide a s).seq = s.seq ∧
    (collide a s).law = s.law ∧ (collide a s).tables = s.tables ∧ (collide a s).bus = s.bus ∧
    (collide a s).sel = s.sel ∧ (collide a s).wheels = s.wheels ∧ (collide a s).conv = s.conv ∧
    (collide a s).drive = s.drive ∧ (collide a s).faults = s.faults := by
  unfold collide
  repeat' split
  all_goals simp

/-- What `completeAccess` leaves alone. -/
@[simp] theorem completeAccess_keeps (s : State) :
    (completeAccess s).pending = s.pending ∧ (completeAccess s).phase = s.phase ∧
    (completeAccess s).rstn = s.rstn ∧ (completeAccess s).ticks = s.ticks ∧
    (completeAccess s).seq = s.seq ∧ (completeAccess s).law = s.law ∧
    (completeAccess s).tables = s.tables ∧ (completeAccess s).bus = s.bus ∧
    (completeAccess s).sel = s.sel ∧ (completeAccess s).wheels = s.wheels ∧
    (completeAccess s).conv = s.conv ∧ (completeAccess s).drive = s.drive ∧
    (completeAccess s).faults = s.faults := by
  unfold completeAccess
  dsimp only
  repeat' split
  all_goals simp

/-- What `beginGuarded` leaves alone. -/
@[simp] theorem beginGuarded_keeps (a : Access) (s : State) :
    (beginGuarded a s).pending = s.pending ∧ (beginGuarded a s).phase = s.phase ∧
    (beginGuarded a s).rstn = s.rstn ∧ (beginGuarded a s).ticks = s.ticks ∧
    (beginGuarded a s).seq = s.seq ∧ (beginGuarded a s).law = s.law ∧
    (beginGuarded a s).tables = s.tables ∧ (beginGuarded a s).bus = s.bus ∧
    (beginGuarded a s).sel = s.sel ∧ (beginGuarded a s).wheels = s.wheels ∧
    (beginGuarded a s).conv = s.conv ∧ (beginGuarded a s).drive = s.drive ∧
    (beginGuarded a s).faults = s.faults := by
  unfold beginGuarded
  repeat' split
  all_goals simp

/-- What `wholeGuarded` leaves alone. -/
@[simp] theorem wholeGuarded_keeps (a : Access) (s : State) :
    (wholeGuarded a s).pending = s.pending ∧ (wholeGuarded a s).phase = s.phase ∧
    (wholeGuarded a s).rstn = s.rstn ∧ (wholeGuarded a s).ticks = s.ticks ∧
    (wholeGuarded a s).seq = s.seq ∧ (wholeGuarded a s).law = s.law ∧
    (wholeGuarded a s).tables = s.tables ∧ (wholeGuarded a s).bus = s.bus ∧
    (wholeGuarded a s).sel = s.sel ∧ (wholeGuarded a s).wheels = s.wheels ∧
    (wholeGuarded a s).conv = s.conv ∧ (wholeGuarded a s).drive = s.drive ∧
    (wholeGuarded a s).faults = s.faults := by
  unfold wholeGuarded
  repeat' split
  all_goals simp

/-- What `drives` leaves alone. -/
@[simp] theorem drives_keeps (w : Word) (s : State) :
    (drives w s).pending = s.pending ∧ (drives w s).phase = s.phase ∧ (drives w s).rstn = s.rstn ∧
    (drives w s).ticks = s.ticks ∧ (drives w s).seq = s.seq ∧ (drives w s).law = s.law ∧
    (drives w s).tables = s.tables ∧ (drives w s).bus = s.bus ∧ (drives w s).sel = s.sel ∧
    (drives w s).wheels = s.wheels ∧ (drives w s).conv = s.conv ∧ (drives w s).drive = s.drive ∧
    (drives w s).faults = s.faults := by
  simp [drives]

/-- What `readXstatHold` leaves alone. -/
@[simp] theorem readXstatHold_keeps (s : State) :
    (readXstatHold s).pending = s.pending ∧ (readXstatHold s).phase = s.phase ∧
    (readXstatHold s).rstn = s.rstn ∧ (readXstatHold s).ticks = s.ticks ∧
    (readXstatHold s).seq = s.seq ∧ (readXstatHold s).law = s.law ∧
    (readXstatHold s).tables = s.tables ∧ (readXstatHold s).bus = s.bus ∧
    (readXstatHold s).sel = s.sel ∧ (readXstatHold s).wheels = s.wheels ∧
    (readXstatHold s).conv = s.conv ∧ (readXstatHold s).drive = s.drive ∧
    (readXstatHold s).faults = s.faults := by
  unfold readXstatHold
  dsimp only
  repeat' split
  all_goals simp

/-- What `accessInReset` leaves alone. -/
@[simp] theorem accessInReset_keeps (o : AccessOp) (s : State) :
    (accessInReset o s).pending = s.pending ∧ (accessInReset o s).phase = s.phase ∧
    (accessInReset o s).rstn = s.rstn ∧ (accessInReset o s).ticks = s.ticks ∧
    (accessInReset o s).seq = s.seq ∧ (accessInReset o s).law = s.law ∧
    (accessInReset o s).tables = s.tables ∧ (accessInReset o s).bus = s.bus ∧
    (accessInReset o s).sel = s.sel ∧ (accessInReset o s).wheels = s.wheels ∧
    (accessInReset o s).conv = s.conv ∧ (accessInReset o s).drive = s.drive ∧
    (accessInReset o s).faults = s.faults := by
  unfold accessInReset
  repeat' split
  all_goals simp

end Sys2Proof.Machine
end

