-- ==== Sys2Proof/Laws/WindowWork.lean ====
section
/-! SUPPORT. The window's work piece by piece: the memory it leaves stays canonical, and the scratch and the
directive area are not written (R163, R169, R183). -/

namespace Sys2Proof.Machine

/-- A byte that no report's bytes and no frame table entry can reach. -/
def Reserved (a : Nat) : Prop := 0x1600 ≤ a ∨ (0x0200 ≤ a ∧ a < 0x0A00)

theorem Memory.publish_wf (id : RingId) (r : Ring) (rep : Report) (m : Memory) (h : m.wf = true) :
    (m.publish id r rep).wf = true :=
  Memory.writeWord_wf _ _ _ (Memory.writeWord_wf _ _ _ (Memory.writeRing_wf m _ _ _ _ h))

theorem Memory.publish_reserved (id : RingId) (r : Ring) (rep : Report) (m : Memory) {a : Nat}
    (ha : Reserved a) : (m.publish id r rep).read a = m.read a := by
  have hm := Nat.mod_lt r.publish.toNat (by decide : 0 < 16)
  have place : ∀ j, id.areaBase + (r.writePos + j) % id.areaSize ≠ a := by
    intro j
    have hs : 0 < id.areaSize := by cases id <;> decide
    have := Nat.mod_lt (r.writePos + j) hs
    cases id <;> simp only [RingId.areaBase, RingId.areaSize, Reserved] at * <;> omega
  have entry : id.tableBase + 4 * (r.publish.toNat % 16) + 4 ≤ 0x01C0 := by
    cases id <;> simp only [RingId.tableBase] <;> omega
  have low : 0x01C0 ≤ a := by unfold Reserved at ha; omega
  unfold Memory.publish
  rw [Memory.read_writeWord_outside _ _ _ _ (by omega), Memory.read_writeWord_outside _ _ _ _ (by omega)]
  exact Memory.read_writeFrom_outside _ a _ m 0 (fun j _ _ => place j)

/-- What publishing does to the memory: it keeps the canonical form and every reserved byte. -/
theorem publish_mem (id : RingId) (n : Nat) :
    ∀ p : Port, (p.mem.wf = true → (publish n id p).mem.wf = true) ∧
      ∀ a, Reserved a → (publish n id p).mem.read a = p.mem.read a := by
  induction n with
  | zero => exact fun p => ⟨fun h => h, fun _ _ => rfl⟩
  | succ n ih =>
    intro p
    unfold publish
    dsimp only
    repeat' split
    · exact ⟨fun h => h, fun _ _ => rfl⟩
    · rename_i rep _ _ _
      refine ⟨fun h => (ih _).1 ?_, fun a ha => ((ih _).2 a ha).trans ?_⟩
      · cases id <;> exact Memory.publish_wf _ _ rep _ h
      · cases id <;> exact Memory.publish_reserved _ _ rep _ ha
    · exact ⟨fun h => h, fun _ _ => rfl⟩

/-- What serving the rings does to the memory: it keeps the canonical form and every reserved byte. -/
theorem serveUpTo_mem (p : Port) (i j : Nat) (e t : Word) :
    (p.mem.wf = true → (p.serveUpTo i j e t).mem.wf = true) ∧
      ∀ a, Reserved a → (p.serveUpTo i j e t).mem.read a = p.mem.read a := by
  unfold Port.serveUpTo
  dsimp only
  refine ⟨fun h => (publish_mem .trace j _).1 ((publish_mem .event i _).1 h), fun a ha => ?_⟩
  rw [(publish_mem .trace j _).2 a ha, (publish_mem .event i _).2 a ha]

theorem State.snapshotBytes_length (s : State) : s.snapshotBytes.length = 64 := by
  simp [State.snapshotBytes, State.snapshotWords, wordBytes]

theorem FaultMonitor.pageBytes_length (m : FaultMonitor) : m.pageBytes.length = 80 := by
  have e : ∀ r : FaultRecord, r.pageEntry.length = 4 := fun _ => rfl
  simp [FaultMonitor.pageBytes, List.length_flatMap, e]

/-- What step 5 does to the memory: it keeps the canonical form and every byte from 0x00E0 up. -/
theorem writeOwned_mem (s : State) :
    (s.port.mem.wf = true → (writeOwned s).port.mem.wf = true) ∧
      ∀ a, 0x00E0 ≤ a → (writeOwned s).port.mem.read a = s.port.mem.read a := by
  unfold writeOwned Memory.writeRecords Memory.writeCounts
  dsimp only [setPort]
  refine ⟨fun h => ?_, fun a ha => ?_⟩
  · repeat' first | apply Memory.writeBytes_wf | apply Memory.writeWord_wf
    exact h
  · rw [Memory.read_writeBytes_outside _ _ _ _ (by simp [Retained.bytes, wordBytes]; omega),
      Memory.read_writeBytes_outside _ _ _ _ (by rw [FaultMonitor.pageBytes_length]; omega),
      Memory.read_writeBytes_outside _ _ _ _ (by rw [State.snapshotBytes_length]; omega)]
    repeat rw [Memory.read_writeWord_outside _ _ _ _ (by omega)]

/-- What the window's work does to the memory, however far it has come: it keeps the canonical form and every
reserved byte. -/
theorem windowWork_mem (n : Nat) (s : State) :
    (s.port.mem.wf = true → (windowWork n s).port.mem.wf = true) ∧
      ∀ a, Reserved a → (windowWork n s).port.mem.read a = s.port.mem.read a := by
  have low : ∀ {a}, Reserved a → 0x00E0 ≤ a := by intro a h; unfold Reserved at h; omega
  unfold windowWork
  dsimp only
  split <;> split <;>
    refine ⟨fun h => ?_, fun a ha => ?_⟩ <;>
    simp_all [writeOwned_mem, serveUpTo_mem, setPort]

end Sys2Proof.Machine
end

