-- ==== Sys2Proof/Tests/Slice0.lean ====
section
/-! SUPPORT. Tests on fixed values, their expected results taken from the worked cases and the tables of
spec/, and for each statement with hypotheses a state and operands that meet them. -/

namespace Sys2Proof.Tests

open Sys2Proof Sys2Proof.Machine

/-- The state a command leaves; every command leaves one. -/
def after (c : Instr) (s : State) : State :=
  match exec c s with
  | .next t => t
  | .fault _ => s
  | .refused _ => s

/-- The state after reset in a mode. -/
def inMode (m : Mode) : State := { State.reset with seq := { State.reset.seq with mode := m } }

/-- A directive's answer. -/
def answerOf (d : Directive) (body : List Byte) (s : State) : Option Done := (deliver d 0 body s).2

/-- The state a directive leaves. -/
def stateOf (d : Directive) (body : List Byte) (s : State) : State := (deliver d 0 body s).1

/-- The bytes of signed words. -/
def wordsOf (l : List Int) : List Byte := l.flatMap fun x => wordBytes (wordOfInt x)

/-! ### Well-formedness: each check refuses an ill-formed command, and accepts at its boundary -/

theorem test_wf_softReset : (Instr.softReset 1).wf = false ∧ (Instr.softReset 2).wf = true := by decide
theorem test_wf_setPortMode : (Instr.setPortMode 2).wf = false ∧ (Instr.setPortMode 1).wf = true := by decide
theorem test_wf_registerWrite :
    (Instr.registerWrite 0x0000 0).wf = false ∧ (Instr.registerWrite 0x1600 0).wf = false ∧
    (Instr.registerWrite 0x1FF4 0).wf = false ∧ (Instr.registerWrite 0x1FF8 0).wf = false ∧
    (Instr.registerWrite 0x1FF6 0).wf = true := by decide
theorem test_wf_guarded :
    (Instr.hostGuardedAccess (.whole 0x1600 .read)).wf = false ∧
    (Instr.hostGuardedAccess (.begins 0x1FF0 .read)).wf = false ∧
    (Instr.hostGuardedAccess (.whole 0x15FE .read)).wf = true := by decide
theorem test_wf_scratch :
    (Instr.hostScratchAccess 0x15FE .read).wf = false ∧ (Instr.hostScratchAccess 0x1FF0 .read).wf = false ∧
    (Instr.hostScratchAccess 0x1600 .read).wf = true := by decide
theorem test_wf_poll :
    (Instr.pollComplete (.levels (List.replicate 69 true)) true).wf = false ∧
    (Instr.pollComplete (.levels (List.replicate 68 true)) true).wf = true ∧
    (Instr.pollComplete .lineLow true).wf = true := by decide
theorem test_wf_passThrough :
    (Instr.passThroughComplete (.levels (List.replicate 111 true)) true).wf = false ∧
    (Instr.passThroughComplete (.levels (List.replicate 110 true)) true).wf = true := by decide

/-! ### The step -/

/-- No row of the table has bits, so no word spells a command. -/
theorem test_decode_none : decodeTableWord 16 0 = none := rfl

/-- The front command runs on the queue's rest. -/
theorem test_step_front :
    step { State.reset with pending := [.fltnMinTimerExpiry, .powerOnReset] } =
      .next { State.reset with pending := [.powerOnReset] } := by rfl

/-! ### Arithmetic and the law (00, 02) -/

/-- R1's own three examples. -/
theorem test_rdiv : rdiv 7 2 = 4 ∧ rdiv (-7) 2 = -4 ∧ rdiv (-40000) 150 = -267 := by decide

/-- The lean map of sections 2.10 and 2.11, 0 but for the entries they use. -/
def rideMap : Vector (Vector Int 9) 8 :=
  let flat : Vector Int 9 := Vector.replicate 9 0
  #v[flat, flat, #v[0, 0, 0, 0, 0, 300, 600, 0, 0], #v[0, 0, 0, 0, 0, 700, 1400, 0, 0], flat, flat,
     #v[-1800, -1200, 0, 0, 0, 0, 0, 0, 0], #v[-1500, -1000, 0, 0, 0, 0, 0, 0, 0]]

/-- The bank of section 2.10 (Table 2-7). -/
def rideBank : Bank :=
  { Bank.defaults with
    leanMap := rideMap
    schedule := #v[⟨0, 1000, 800, 0⟩, ⟨150, 1000, 800, 0⟩, ⟨300, 600, 500, 2⟩, ⟨600, 200, 300, 4⟩,
                   ⟨900, 0, 200, 6⟩, ⟨2500, 0, 100, 8⟩]
    tuning := { Tuning.defaults with kp := 800, kd := 60, tmaxTilt := 4000, slewTilt := 150 } }

/-- The inputs of section 2.10. -/
def rideInputs : Inputs :=
  { served := { phi := 150, phiDot := -300, delta := 600, tauR := 120 }, v := 250, deltaDot := 5000,
    torqueLost := false }

/-- Table 2-8, whole. -/
theorem test_ride :
    computeResults { mode := .active, bank := rideBank, degrade := false } rideInputs 1900 30 7 =
      { cycle := 7, phi := 150, phiDot := -300, delta := 600, tauR := 120, v := 250, phiStar := 480,
        aEff := 733, gEff := 600, tTilt := 2050, tSteer := 22, iTilt := 3417, iSteer := 37 } := by
  decide

/-- Section 2.10 with degrade in force. -/
theorem test_ride_degraded :
    let r := computeResults { mode := .active, bank := rideBank, degrade := true } rideInputs 1900 30 7
    r.aEff = 500 ∧ r.gEff = 500 ∧ r.tTilt = 1750 ∧ r.tSteer = 10 := by decide

/-- Section 2.11: the corner entry, and the schedule's last point. -/
theorem test_map_corner :
    rideBank.mapTarget 2800 (-4500) = -1500 ∧ rideBank.column SchedulePoint.steerGain 2800 = 100 := by
  decide

/-- Table 2-10: three computations in SAFE, and a torque that pulls inward, which is not cut (R42; log
entry 33). -/
theorem test_safe_damping :
    let t : Taken := { mode := .safe, bank := Bank.defaults, degrade := false }
    let tilt (previous phi phiDot : Int) : Int := tiltTorque t previous phi (authTorque t 0 phi phiDot 0)
    tilt 180 4200 (-600) = 0 ∧ tilt 0 4050 (-550) = 0 ∧ tilt 0 3950 (-500) = 100 ∧
    setpoint 600 15000 100 = 167 ∧ slewed 2000 100 180 (-240) = 80 ∧ tilt 0 4200 600 = -100 := by decide

/-- CONTROL_CYCLE_EXPIRY after reset: the first computation is number 0 (R28), COMPUTATION_COMPLETE delivers
it, and an expiry at another value than the counter's has no effect (log entry 5). -/
theorem test_first_computation :
    let s := after (.controlCycleExpiry 0) State.reset
    let t := after .computationComplete s
    s.law.timer = some 2000 ∧ s.law.started = true ∧ s.law.cycle = 0 ∧ s.law.computing.isSome = true ∧
    t.law.computing = none ∧ t.law.results.cycle = 0 ∧ (after (.controlCycleExpiry 0) t).law.cycle = 1 ∧
    after (.controlCycleExpiry 1) t = t := by
  decide

/-! ### The sequencer (01) -/

/-- R5: a closing line is accepted after 5 ms, a return stops the 5 ms. -/
theorem test_contact :
    let s := after (.contactLineChange .lke true) State.reset
    s.seq.lke.debounce = some 5000 ∧ (after (.contactAccepted .lke) s).seq.lockDrive = .engaged ∧
    (after (.contactLineChange .lke false) s).seq.lke.debounce = none := by decide

/-- R13: the pin leaves in HELD. R15: it withdraws in RELEASING. -/
theorem test_lock_drive :
    let held := { inMode .held with seq := { (inMode .held).seq with
      lke := { line := false, level := true, debounce := some 0 } } }
    let releasing := { inMode .releasing with seq := { (inMode .releasing).seq with
      lkr := { line := true, level := false, debounce := some 0 } } }
    (after (.contactAccepted .lke) held).seq.mode = .safe ∧
    (after (.contactAccepted .lke) held).faults.retained.kind = 12 ∧
    (after (.contactAccepted .lkr) releasing).seq.mode = .active := by decide

/-- R16 and R20: the release limit. R21: the engage limit, a retry and the third failure. -/
theorem test_lock_limits :
    let releasing := { inMode .releasing with seq := { (inMode .releasing).seq with lockLimit := some 0 } }
    let engaging (n : Nat) : State := { inMode .engaging with
      seq := { (inMode .engaging).seq with lockLimit := some 0, attemptCount := n } }
    (after .releaseLimitExpiry releasing).seq.mode = .engaging ∧
    (after .releaseLimitExpiry releasing).seq.holdOff = some 1000000 ∧
    (after .engageLimitExpiry (engaging 1)).seq.mode = .capturing ∧
    (after .engageLimitExpiry (engaging 2)).seq.mode = .safe := by decide

/-- R8: the hold-off stops. -/
theorem test_hold_off :
    let s := { State.reset with seq := { State.reset.seq with holdOff := some 0 } }
    (after .releaseHoldOffExpiry s) = State.reset := by rfl

/-- R142: PULL-IN becomes HOLD, driven at level from the next period on. -/
theorem test_solenoid :
    let s := setSolenoid true State.reset
    let t := after .solenoidPullInExpiry s
    s.drive.pullIn = some 60000 ∧ t.drive.stage = .hold ∧ t.drive.lks 0 = true ∧
    (after .pwmPeriodStart t).drive.lks 0 = false ∧ (after .pwmPeriodStart t).drive.lks 25000 = true := by
  decide

/-! ### The tables (03) -/

/-- Section 3.8: the two breakpoints that meet, the refused commit and the discard. -/
theorem test_refused_commit :
    let body := wordsOf [0, 100, 200, 400, 700, 1000, 3000, 3500,
                         -4000, -2000, -1000, -500, 0, 500, 1000, 2000, 4000]
    let s := stateOf .loadAxes body (inMode .held)
    answerOf .loadAxes body (inMode .held) = some (.plain .acceptedClamped 1) ∧
    answerOf .commitTables [] s = some (.plain .invalidTables 1) ∧
    answerOf .discardTables [] s = some (.plain .accepted 0) ∧
    stateOf .discardTables [] s = inMode .held := by decide

/-- R61: slew_tilt 0 becomes 1 and v_cap 0 becomes 20, one clamped value each. -/
theorem test_load_tuning :
    let body := wordsOf [400, 40, 40, 2000, 0, 800, 50, 4000, 150, 0, 150, 500, 500, 600, 600, 15000,
                         15000, 25000, 800, 40, 36000, 60000, 1200]
    (stateOf .loadTuning body State.reset).tables.pendingBank.tuning =
      { Tuning.defaults with slewTilt := 1, vCap := 20 } ∧
    answerOf .loadTuning body State.reset = some (.plain .acceptedClamped 2) := by decide

/-! ### The sensor bus (04) -/

/-- Entry 1 of section 4.8. -/
def inertial : DeviceConfig :=
  { enabled := true, address := 0x6A, regWidth := 1, regAddr := 0x22, readLength := 4, quantity := .rate,
    rawPos := 2, little := false, gain := 1500, offset := 12,
    status := some { offset := 0, mask := 0x80, expected := 0x80 }, maxStep := 2000, staleLimit := 5 }

/-- The bus with the entry enabled and its poll on the wires. -/
def polling : State :=
  let b : Bus := { State.reset.bus with activity := .idle, round := .polling none }
  { State.reset with bus := (b.setDevice 1 { Device.cleared with cfg := inertial }).startPoll 1 }

/-- The levels of a transaction that is acknowledged throughout: so many bytes sent, and the bytes read. -/
def readLevels (sent : Nat) (bytes : List Byte) : BusAnswer :=
  .levels (List.replicate sent false ++ bytes.flatMap byteBits)

/-- Table 4-1's order of the bits: 0x6A with the read direction is 0xD5, 1101 0101 on SDA, most significant
first, then the released acknowledge (R69). -/
theorem test_byte_on_the_lines :
    byteBits (addressByte 0x6A true) = [true, true, false, true, false, true, false, true] ∧
    readByte [true, true, false, true, false, true, false, true] = 0xD5 ∧
    ((BusElement.send 0xD5).lines.filter fun x => x.scl).map (fun x => x.sda) =
      [true, true, false, true, false, true, false, true, true] := by decide

/-- R86: nine clock pulses with SDA released, then a stop: SDA rises under a high SCL; 10 bit periods. -/
theorem test_clear_on_the_lines :
    let x := Transaction.clearAt .mhz1
    x.wire.count .clock = 9 ∧ wireBitPeriods x.wire = 10 ∧
    x.lines [] = (List.replicate 9 [⟨true, false⟩, ⟨true, true⟩, ⟨true, false⟩]).flatten ++
      [⟨false, false⟩, ⟨false, true⟩, ⟨true, true⟩] := by decide

/-- SET_DEVICE gives section 4.8's entry and clamps nothing; its poll takes 66 bit periods. -/
theorem test_set_device :
    let body : List Byte := [1, 1, 0x6A, 1, 0x22, 0, 4, 1, 2, 0] ++ wordsOf [1500, 12] ++
      [1, 0, 0x80, 0x80] ++ wordsOf [2000] ++ [5]
    ((stateOf .setDevice body State.reset).bus.device 1).cfg = inertial ∧
    (answerOf .setDevice body State.reset).map Done.outcome = some .accepted ∧
    wireBitPeriods inertial.wire = 66 ∧
    inertial.wire.take 4 = [.start, .send 0xD4, .send 0x22, .repeatedStart] := by decide

/-- Table 4-5: rounds n and n + 1. -/
theorem test_poll :
    let a := after (.pollComplete (readLevels 3 [0x81, 0x00, 0xFC, 0x0C]) true) polling
    (a.bus.device 1).run = { last := -5918, age := some 0, misses := 0, joined := true, sampled := true } ∧
    ((a.bus.device 1).complete (.bytes [0x81, 0x00, 0xFE, 0x0C])).run.misses = 1 ∧
    ((a.bus.device 1).complete (.bytes [0x01, 0x00, 0xFE, 0x0C])).run.misses = 1 ∧
    ((a.bus.device 1).complete (.bytes [0x81, 0x00, 0xFD, 0x0C])).run.last = -4418 := by decide

/-- Table 4-6: with stale limit 3 the entry leaves the joined set at age 4. -/
theorem test_round :
    let entry (age : Nat) : Device :=
      { cfg := { inertial with staleLimit := 3 },
        run := { last := 0, age := some age, misses := 0, joined := true, sampled := false } }
    (entry 2).ageStep.run.joined = true ∧ (entry 3).ageStep.run.joined = false ∧
    (after .roundTimerExpiry State.reset).bus.timer = some 2000 := by decide

/-- A bus with one pass-through on the wires and another behind it. -/
def passing : State :=
  let p : PassThrough := { tag := 9, address := 0x50, writes := [0], readCount := 2 }
  { State.reset with bus := ({ State.reset.bus with activity := .idle, round := .done,
                                                    queue := [p, { p with tag := 10 }] } : Bus).next }

/-- R83: the oldest leaves the queue with its answer. R84: a held clock ends it with detail 0. -/
theorem test_pass_through :
    let done := after (.passThroughComplete (readLevels 3 [1, 2]) true) passing
    let refused := after (.passThroughComplete (.levels [false, true]) true) passing
    let held := after (.sclHoldTimeout true true) passing
    done.bus.queue.map PassThrough.tag = [10] ∧
    done.port.event.queue.map Report.body = [.directiveDone 9 18 .done 2 [1, 2]] ∧
    refused.port.event.queue.map Report.body = [.directiveDone 9 18 .nackData 0 []] ∧
    held.port.event.queue.map Report.body = [.directiveDone 9 18 .busTimeout 0 []] ∧
    held.bus.activity = .clear (.clearAt .mhz1) := by decide

/-- R86 and R88: a failed clear makes the bus STUCK and raises its kind; a later one ends it. -/
theorem test_bus_clear :
    let stuck := after (.busClearComplete false true) State.reset
    let again := after (.busClearComplete true true) (after .roundTimerExpiry stuck)
    stuck.bus.stuck = true ∧ (stuck.faults.get .sensorBusStuck).state = .active ∧
    again.bus.stuck = false ∧ (again.faults.get .sensorBusStuck).state = .latched := by decide

/-! ### Sources and wheels (05, 06) -/

/-- Section 5.5: the two potentiometer values. -/
theorem test_pot_value :
    (PotScale.mk 2048 300).value 2200 = 178 ∧ (PotScale.mk 2048 300).value 2205 = 184 := by decide

/-- Section 6.4's examples and section 6.8's decays. -/
theorem test_wheel_speed :
    let w := WheelRecord.stoppedWith 48 1300
    w.arc = 27083 ∧ w.speedOver 5417 = 500 ∧ w.speedOver 903 = 2999 ∧ min 3000 (w.speedOver 902) = 3000 ∧
    w.speedOver 11000 = 246 ∧ w.speedOver 19000 = 143 := by decide

/-- A rolling wheel at a speed, with its last period and its reference. -/
def rolling (speed period : Nat) (reference : Stamp) : WheelRecord :=
  { WheelRecord.stoppedWith 48 1300 with
    state := .rolling, speed := speed, lastPeriod := some period, reference := some reference }

/-- Tables 6-5 and 6-6: the fused speed before, during and after the decay, and a rejected edge. -/
theorem test_fused :
    let t := { Tracker.cleared with
      frontLeft := rolling 500 5417 100000, frontRight := rolling 470 5762 0, rear := rolling 480 5642 0 }
    t.fused = some 480 ∧
    ({ t with frontLeft := t.frontLeft.evaluate 111000 } : Tracker).fused = some 470 ∧
    ({ t with frontLeft := t.frontLeft.pulse 120000 } : Tracker).fused = some 470 ∧
    (t.frontLeft.pulse 120000).speed = 135 := by decide

/-- Table 6-6: the eighth ringing edge makes the wheel NOISY, a tooth is accepted. -/
theorem test_wheel_pulse :
    let w := { rolling 542 5000 0 with rejectRun := 7 }
    let at_ (r : WheelRecord) (now : Stamp) : State :=
      { State.reset with wheels := { Tracker.cleared with rear := r, counter := now } }
    let noisy := after (.wheelPulse .rear 1600) (at_ w 1600)
    noisy.wheels.rear = { w with rejectRun := 8, state := .noisy } ∧
    (after (.wheelPulse .rear 5000) (at_ noisy.wheels.rear 5000)).wheels.rear =
      { w with rejectRun := 0, acceptRun := 1, state := .noisy, reference := some 5000 } ∧
    after (.wheelPulse .rear 5001) (at_ w 5000) = at_ w 5000 := by decide

/-! ### Conversion and drive (07, 08) -/

/-- R123's supply scaling, and the chain's next channel. -/
theorem test_conversion :
    let s := after (.normalConversionComplete 2250) State.reset
    s.conv.supply = 36000 ∧ s.conv.position = .an1 ∧
    (after (.normalConversionComplete 745) s).conv.tiltTemp = 0 := by decide

/-- Table 7-5: sample 10 breaks the run, sample 20 raises. -/
theorem test_supply_low :
    let s := { State.reset with conv := { State.reset.conv with low := { raised := false, run := 9 } } }
    (sampleLow 36000 s).conv.low = { raised := false, run := 0 } ∧
    ((sampleLow 35200 s).faults.get .supplyLow).state = .active := by decide

/-- Table 8-5, completions 1 and 2, and Table 8-6, completions n and n + 40. -/
theorem test_loop :
    let c := { Channel.cleared with state := .on, wanted := true, setpoint := 3417 }
    let a := c.loopStep .defaults 0
    let b := a.loopStep .defaults 2400
    let d := { c with setpoint := 15000, integrator := 200000 }
    (a.integrator, a.duty) = (136680, 701) ∧ (b.integrator, b.duty) = (177360, 242) ∧
    ((d.loopStep .defaults 1500).integrator, (d.loopStep .defaults 1500).duty) = (200000, 950) ∧
    ((d.loopStep .defaults 14900).integrator, (d.loopStep .defaults 14900).duty) = (204000, 69) := by
  decide

/-- INJECTED_TRIGGER takes the converter. -/
theorem test_trigger :
    let s := after .injectedTrigger State.reset
    s.conv.normal = none ∧ s.conv.injected = some 16 ∧ s.conv.centre = some 50 := by decide

/-- ACTIVE with both channels ON and the tilt run at 2, an injected chain in progress. -/
def overloaded : State :=
  let on : Channel := { Channel.cleared with state := .on, wanted := true }
  { inMode .active with
    drive := { State.reset.drive with tilt := { on with overRun := 2, duty := 300, applied := 300 }
                                      steer := on }
    conv := { State.reset.conv with injected := some 0 } }

/-- Table 8-7, completion 7: 26505 mA trips, and SAFE turns the steer channel off; 24990 mA does not. -/
theorem test_trip :
    let s := after (.injectedComplete 3815 2048 .steer) overloaded
    let quiet := after (.injectedComplete 3714 2048 .tilt) overloaded
    s.drive.tilt.state = .tripped ∧ s.drive.tilt.applied = 0 ∧ s.drive.steer.state = .off ∧
    s.seq.mode = .safe ∧ (s.faults.get .tiltOvercurrent).state = .latched ∧
    quiet.drive.tilt.state = .on ∧ quiet.drive.tilt.overRun = 0 := by decide

/-- R132: a channel ON loads its duty, and drives its A line around the period centre. -/
theorem test_period :
    let c := { Channel.cleared with state := .on, wanted := true, duty := 701 }
    let s := after .pwmPeriodStart { State.reset with drive := { State.reset.drive with tilt := c } }
    s.drive.tilt.applied = 701 ∧ s.drive.tilt.lineA 25000 = true ∧ s.drive.tilt.lineA 0 = false ∧
    s.drive.tilt.lineB 25000 = false := by decide

/-! ### Faults (09) -/

/-- Table 9-5 at 250 ms: ACTIVE at 260 cm/s, the pin withdrawn, STEER_LOST LATCHED and unanswered. -/
def unanswered : State :=
  let s := inMode .active
  let r := { s.faults.get .steerLost with state := .latched, count := 1, ackTimer := some 0 }
  let f := s.faults.put .steerLost r
  { s with seq := { s.seq with lastSpeed := 260, solenoid := true,
                               lkr := { line := true, level := true, debounce := none } }
           law := { s.law with results := { Results.cleared with cycle := 5124, phi := 90, v := 260 } }
           faults := { f with retained := { Retained.zero with count := 2 } } }

/-- Table 9-5 at 250 ms. -/
theorem test_escalation :
    let s := after (.ackTimerExpiry .steerLost) unanswered
    s.seq.mode = .safe ∧ s.seq.latchHolding = true ∧ s.seq.solenoid = true ∧
    s.faults.retained = { kind := 6, lastInstance := 0, modeBefore := .active, phi := 90, v := 260,
                          cycle := 5124, count := 3 } ∧
    answerOf .recover [] s = some (.plain .faultsPresent 6) := by decide

/-- Table 9-4 at 0 and 370 ms: the line is held, and let go with no DEGRADE or SAFE kind left. -/
theorem test_fault_line :
    let s := raise .supplyLow 0 State.reset
    let t := stateOf .clearFault [16] (endFault .supplyLow s)
    s.faults.fltnActive = true ∧ s.port.cause = 0x11 ∧ t.faults.fltnActive = true ∧
    (after .fltnMinTimerExpiry t).faults.fltnActive = false := by decide

/-! ### The port (10, 11) -/

/-- R164 and R181: a soft reset keeps the memory but for the counts, and its end sets RESET_DONE. -/
theorem test_soft_reset :
    let m : Memory := [(0, 1), (0x0250, 7)]
    let s := { State.reset with port := { State.reset.port with mem := m, enable := 3, cause := 0 } }
    let r := after (.softReset 3) s
    r.port.mem = [(0x0250, 7)] ∧ r.port.mode = .noWait ∧ r.phase = .soft 10 ∧ r.port.enable = 3 ∧
    (after .resetEnd r).port.cause = 1 ∧ (after .resetEnd r).phase = .running := by decide

/-- R164: power-on clears all, and a pin reset lowers RSTN. -/
theorem test_other_resets :
    (after .powerOnReset State.reset).phase = .powerOn ∧
    (after .pinReset State.reset).rstn = false ∧ (after .pinReset State.reset).phase = .pin := by decide

/-- R179 and R180: the port mode, the enables and the causes. -/
theorem test_registers :
    (after (.setPortMode 1) State.reset).port.mode = .noWait ∧
    (after (.xcauseWrite 1) State.reset).port.cause = 0 ∧
    (after (.registerWrite 0x1FF6 0xFFFF) State.reset).port.enable = 0x7F ∧
    (after .xstatHoldRead State.reset).port.holdArmed = true ∧
    (after (.registerWrite 0x1FF0 0xFFFF) State.reset) = State.reset := by decide

/-- R163: a word of the guarded region and a word of the scratch. -/
theorem test_accesses :
    let g := after (.hostGuardedAccess (.whole 0x0200 (.write 0xABCD))) State.reset
    let c := after (.hostScratchAccess 0x3600 (.write 0x1234)) State.reset
    g.port.mem = [(0x0200, 0xCD), (0x0201, 0xAB)] ∧ c.port.mem = [(0x1600, 0x34), (0x1601, 0x12)] ∧
    (after (.hostScratchAccess 0x1600 .read) c).port.adData = 0x1234 := by decide

/-- R165 and R168: an armed hold defers the window, and its limit opens it. -/
theorem test_deferral :
    let s := after .exchangeTimerExpiry (after .xstatHoldRead State.reset)
    s.port.window = .deferred ∧ s.port.deferral = some 100 ∧
    (after .deferralLimitExpiry s).port.window = .opened ∧
    (after .deferralLimitExpiry s).port.cause = 0x41 := by decide

/-- Section 10.3.1's window: LOAD_TUNING misplaced no longer, COMMIT_TABLES at 350 where 348 is expected.
Two frames of it: the take count stands at 41, the expected start at 348. -/
def misplaced : State :=
  let m := Memory.writeWord (Memory.writeWord (Memory.writeWord [] 0x0000 42) 0x0124 350) 0x0126 2
  { State.reset with port := { State.reset.port with window := .opened, take := 41, expected := 348,
                                                     mem := Memory.writeWord m (0x0200 + 350) 0x0209 } }

/-- R171: the frame is refused PLACEMENT with the three words, the start re-anchors, the count rises, and
the report is published. -/
theorem test_misplaced :
    let s := takeFrame misplaced
    s.port.event.queue.map Report.body = [.directiveDone 0 0 .placement 0 (wordsOf [350, 2, 348])] ∧
    s.port.expected = 352 ∧ s.port.take = 42 ∧ s.tables = misplaced.tables := by decide

/-- WINDOW_OPEN runs all of it: the take count and the publish count stand in the memory. -/
theorem test_window :
    let s := after .windowOpen misplaced
    s.port.window = .closed ∧ s.port.mem.readWord 0x0002 = 42 ∧ s.port.mem.readWord 0x0004 = 1 ∧
    s.port.cause = 7 ∧ s.port.mem.readWord 0x0A00 = 1 := by
  decide +kernel

/-- R164 and R169: the window's work so far. After its first piece the frame is taken and nothing is written;
after step 4's first the report stands in the event area and the counts in the memory are the old ones; after
step 5 they are new. -/
theorem test_window_work :
    let m (n : Nat) : Memory := (windowWork n misplaced).port.mem
    (windowWork 1 misplaced).port.take = 42 ∧ m 1 = misplaced.port.mem ∧
    (m 5).readWord 0x0A00 = 1 ∧ (m 5).readWord 0x0002 = 0 ∧ (m 5).readWord 0x0004 = 0 ∧
    (m 13).readWord 0x0002 = 42 ∧ (m 13).readWord 0x0004 = 1 := by
  decide +kernel

/-- Table 11-14: a FAULT_CHANGED of 9 bytes at 640 leaves the write position 650. -/
theorem test_publish :
    let rep : Report := { aux := 40, cycle := 0, body := .faultChanged .supplyLow 0 .active .degrade 1 }
    let r : Ring := { Ring.cleared with publish := 200, released := 186, writePos := 640, queue := [rep],
                                        footprints := List.replicate 14 10 }
    let p := publish 1 .event { State.reset.port with event := r }
    rep.frame.length = 9 ∧ p.event.writePos = 650 ∧ p.event.publish = 201 ∧
    p.mem.readWord 0x0160 = 640 ∧ p.mem.readWord 0x0162 = 9 := by decide

/-! ### Witnesses: for each statement with hypotheses, a state and operands that meet them, each clause at a
boundary value -/

/-- ACTIVE with the lock withdrawn and held, both channels ON, and the end of a computation waiting. -/
def riding : State :=
  let s := inMode .active
  let on : Channel := { Channel.cleared with state := .on, wanted := true, duty := 950 }
  { s with
    pending := [.computationComplete]
    seq := { s.seq with solenoid := true, lkr := { line := true, level := true, debounce := none } }
    law := { s.law with computing := some { results := { Results.cleared with v := 150 }, age := 3 } }
    drive := { s.drive with stage := .hold, holdDriven := true, tilt := on, steer := on }
    port := { s.port with mem := [(0x0000, 5)] } }

/-- The step that `riding` takes. -/
theorem riding_steps : step riding = .next (after .computationComplete { riding with pending := [] }) := by
  rfl

/-- A command that is no reset; nothing due right after reset; the exchange timer, the release limit and the
pull-in run out; a soft reset with time left and with none, and a pin reset. -/
theorem witness_CommandsAndIdleComplete :
    let early := { State.reset with port := { State.reset.port with timer := some 0 } }
    let releasing := { inMode .releasing with seq := { (inMode .releasing).seq with lockLimit := some 0 } }
    Instr.windowOpen ≠ .pinReset ∧ Instr.windowOpen ≠ .resetEnd ∧
    State.reset.pending = [] ∧ State.reset.due = [] ∧ State.reset.phase = .running ∧
    early.pending = [] ∧ early.due = [.exchangeTimerExpiry] ∧ releasing.due = [.releaseLimitExpiry] ∧
    (beginSoft riding).phase = .soft 10 ∧ (beginSoft riding).due = [] ∧
    { State.reset with phase := .soft 0 }.due = [.resetEnd] ∧ (beginPin riding).phase = .pin := by decide

/-- Left alone right after reset the part lets 1 µs pass (log entry 3). -/
theorem test_idle :
    step State.reset = .next (passMicrosecond State.reset) ∧
    (passMicrosecond State.reset).port.timer = some 999 ∧ (passMicrosecond State.reset).wheels.counter = 1 :=
  ⟨rfl, by decide⟩

theorem witness_MemoryStaysCanonical : MemorySafe riding.port ∧ ∃ t, step riding = .next t :=
  ⟨by decide, _, riding_steps⟩

theorem riding_faults : FaultsSafe riding.faults :=
  by constructor <;> intro k <;> cases k <;> decide

theorem witness_LockAndFaultsStaySafe :
    LockSafe riding ∧ FaultsSafe riding.faults ∧ ∃ t, step riding = .next t :=
  ⟨by constructor <;> decide, riding_faults, _, riding_steps⟩

theorem witness_BridgesStaySafe : BridgesSafe riding ∧ ∃ t, step riding = .next t :=
  ⟨by constructor <;> first | decide | (constructor <;> decide), _, riding_steps⟩

theorem witness_RingsStaySafe : RingsSafe riding.port ∧ ∃ t, step riding = .next t :=
  ⟨by constructor <;> constructor <;> decide, _, riding_steps⟩

theorem witness_TablesStaySafe : TablesSafe riding ∧ ∃ t, step riding = .next t :=
  ⟨by constructor <;> decide, _, riding_steps⟩

/-- A half, 7 by 2, and a divisor of 1. -/
theorem witness_RoundedDivision :
    0 < 2 ∧ 2 * (rdiv 7 (2 : Nat) * (2 : Nat) - 7).natAbs = 2 ∧ 2 * (rdiv 7 (1 : Nat) * (1 : Nat) - 7).natAbs ≤ 1 ∧
    0 < 1 ∧ rdivNat 7 2 = 4 ∧ rdivNat 0 1 = 0 := by decide

/-- Within a cell, at 250 cm/s and 600 cdeg; at a grid point inside the axes; at the last breakpoints, and
beyond either end. -/
theorem witness_MapTarget :
    let speed (i : Fin 8) : Int := rideBank.speedAxis[i]
    let steer (j : Fin 9) : Int := rideBank.steerAxis[j]
    strictlyRising rideBank.speedAxis.toList = true ∧ strictlyRising rideBank.steerAxis.toList = true ∧
    speed 2 ≤ 250 ∧ 250 < speed 3 ∧ steer 5 ≤ 600 ∧ 600 < steer 6 ∧ rideBank.mapTarget 250 600 = 480 ∧
    speed 3 = 400 ∧ steer 6 = 1000 ∧ rideBank.mapTarget 400 1000 = 1400 ∧
    max (speed 0) (min (speed 7) 2800) = speed 7 ∧ max (steer 0) (min (steer 8) (-4500)) = steer 0 ∧
    ∀ (i : Fin 8) (j : Fin 9), -1800 ≤ rideBank.leanMap[i][j] ∧ rideBank.leanMap[i][j] ≤ 1400 := by decide

/-- What a computation takes in a mode, on the bank of section 2.10. -/
def taken (m : Mode) (degrade : Bool) : Taken := { mode := m, bank := rideBank, degrade := degrade }

/-- Every clause's mode, with degrade in force and not; the authorities reach 1000; below the first point, at
it, within the third segment at its first and its last speed, and at the last point. -/
theorem witness_EffectiveAuthority :
    strictlyRising rideBank.scheduleSpeeds = true ∧
    (∀ k : Nat, k < 6 → (rideBank.point k).authority ≤ 1000) ∧
    (taken .engaging false).mode = .engaging ∧ (taken .safe false).mode = .safe ∧
    (taken .active false).degrade = false ∧ (taken .active true).degrade = true ∧
    0 ≤ (rideBank.point 0).speed ∧ (rideBank.point 5).speed ≤ 2500 ∧ (rideBank.point 2).speed ≤ 300 ∧
    599 < (rideBank.point 3).speed ∧ (rideBank.point 3).speed ≤ 600 := by
  decide

/-- The clauses: HELD, ENGAGING and SAFE; at the soft limit and beyond it by 1, with a torque of either sign
and of 0; a move of exactly slew_tilt and one more. -/
theorem witness_TiltTorque :
    (taken .held false).mode = .held ∧ rideBank.tuning.ls < (4001 : Int).natAbs ∧
    (taken .safe false).mode = .safe ∧ (taken .engaging false).mode = .engaging ∧
    (taken .active false).mode = .active ∧ (taken .active false).mode ≠ .off ∧
    (taken .active false).mode ≠ .held ∧ (taken .active false).mode ≠ .safe ∧
    (0 : Int) * 4001 ≤ 0 ∧ (-1 : Int) * 4001 ≤ 0 ∧ 0 < (1 : Int) * 4001 ∧ (4000 : Int).natAbs ≤ rideBank.tuning.ls ∧
    (clampSym 4000 150 - clampSym 4000 0).natAbs ≤ rideBank.tuning.slewTilt ∧
    rideBank.tuning.slewTilt < (clampSym 4000 151 - clampSym 4000 0).natAbs := by decide

theorem witness_SteerTorqueAndSetpoints :
    (taken .safe false).mode = .safe ∧ (taken .held false).mode ≠ .off ∧ (taken .held false).mode ≠ .safe ∧
    (clampSym 800 50 - clampSym 800 0).natAbs ≤ rideBank.tuning.slewSteer ∧
    clampSym 800 0 + rideBank.tuning.slewSteer < clampSym 800 51 ∧
    clampSym 800 (-51) < clampSym 800 0 - rideBank.tuning.slewSteer ∧
    (taken .off false).mode = .off := by decide

theorem witness_ControlCycleExpiry :
    State.reset.law.timer = some 2000 ∧ State.reset.law.computing = none ∧
    (1 : Stamp) ≠ State.reset.wheels.counter := by decide

theorem witness_ComputationComplete :
    riding.law.computing = some { results := { Results.cleared with v := 150 }, age := 3 } := by decide

/-- A mode with the speed the results record holds. -/
def atSpeed (m : Mode) (v : Nat) : State :=
  { inMode m with law := { State.reset.law with results := { Results.cleared with v := v } } }

/-- The pin seated. -/
def seated (s : State) : State :=
  { s with seq := { s.seq with lke := { line := true, level := true, debounce := none } } }

/-- A lock request. -/
def requested (s : State) : State := { s with seq := { s.seq with hostLock := true } }

/-- A channel in a state, with an integrator. -/
def channelIn (st : ChannelState) : Channel := { Channel.cleared with state := st, integrator := 77, overRun := 2 }

/-- At v_rel the lock is released, 1 cm/s below it is not; a channel OFF and one TRIPPED. -/
theorem witness_CycleEndInHeld :
    let s := atSpeed .held 150
    s.seq.mode = .held ∧ (s.seq.lockRequested = false ∧ s.tuning.vRel ≤ s.law.results.v ∧
      s.seq.holdOff = none ∧ s.faults.safeClassPresent = false) ∧
    ¬ (atSpeed .held 149).tuning.vRel ≤ (atSpeed .held 149).law.results.v ∧
    (channelIn .off).state = .off ∧ (channelIn .tripped).state ≠ .off := by decide

/-- R133: at the release in HELD an OFF channel enters ON with integrator 0, a TRIPPED one stays; RECOVER into
HELD turns the tilt channel OFF where it is ON, and TRIPPED with its kind CLEAR. -/
theorem test_channels_at_mode_changes :
    let held := atSpeed .held 150
    let safe (c : Channel) := seated { atSpeed .safe 0 with drive := { held.drive with tilt := c } }
    (cycleEnd { held with drive := { held.drive with tilt := channelIn .off } }).drive.tilt =
      { Channel.cleared with state := .on, wanted := true } ∧
    (cycleEnd { held with drive := { held.drive with tilt := channelIn .tripped } }).drive.tilt =
      { channelIn .tripped with wanted := true } ∧
    (stateOf .recover [] (safe (channelIn .on))).drive.tilt.state = .off ∧
    (stateOf .recover [] (safe (channelIn .tripped))).drive.tilt.state = .off := by decide

/-- The clauses in their order: at v_cap, below it, a request with the pin seated; below v_cap, a request 1
cm/s below v_rel, a request at v_rel. -/
theorem witness_CycleEndInReleasingAndActive :
    (atSpeed .releasing 80).seq.mode = .releasing ∧ (atSpeed .releasing 80).seq.lockRequested = false ∧
    ¬ (atSpeed .releasing 80).law.results.v < (atSpeed .releasing 80).tuning.vCap ∧
    (atSpeed .releasing 79).law.results.v < (atSpeed .releasing 79).tuning.vCap ∧
    (atSpeed .releasing 79).seq.lockDrive ≠ .engaged ∧
    (requested (seated (atSpeed .releasing 80))).seq.lockRequested = true ∧
    (requested (seated (atSpeed .releasing 80))).seq.lockDrive = .engaged ∧
    (atSpeed .active 79).law.results.v < (atSpeed .active 79).tuning.vCap ∧
    (atSpeed .active 80).tuning.vCap ≤ (atSpeed .active 80).law.results.v ∧
    (requested (atSpeed .active 149)).seq.lockRequested = true ∧
    (requested (atSpeed .active 149)).law.results.v < (requested (atSpeed .active 149)).tuning.vRel ∧
    (requested (atSpeed .active 150)).tuning.vRel ≤ (requested (atSpeed .active 150)).law.results.v := by
  decide

/-- CAPTURING at a lean angle with a count. -/
def capturing (v : Nat) (phi : Int) (count : Nat) : State :=
  { inMode .capturing with
    seq := { (inMode .capturing).seq with captureCount := count }
    law := { State.reset.law with results := { Results.cleared with v := v, phi := phi, phiDot := -500 } } }

/-- SAFE with the latch holding. -/
def latched (v : Nat) : State :=
  { atSpeed .safe v with seq := { (inMode .safe).seq with latchHolding := true, solenoid := true } }

/-- CAPTURING at v_rel and below it, steady at both bounds with the count at 3 and at 4, the pin out and
seated, and unsteady by 1; SAFE with the latch holding below v_cap and at it, and released; ENGAGING. -/
theorem witness_CycleEndInOtherModes :
    (capturing 0 150 3).seq.mode = .capturing ∧ (capturing 149 150 4).seq.lockDrive ≠ .engaged ∧
    (seated (capturing 149 150 4)).seq.lockDrive = .engaged ∧
    (seated (capturing 149 150 4)).seq.captureCount = 4 ∧
    ((capturing 150 0 0).tuning.vRel ≤ (capturing 150 0 0).law.results.v ∧
      (capturing 150 0 0).seq.lockRequested = false) ∧
    ¬ (capturing 149 150 3).tuning.vRel ≤ (capturing 149 150 3).law.results.v ∧
    (capturing 149 150 3).law.results.phi.natAbs ≤ (capturing 149 150 3).tuning.captureBand ∧
    (capturing 149 150 3).law.results.phiDot.natAbs ≤ (capturing 149 150 3).tuning.captureRate ∧
    (capturing 149 150 3).seq.captureCount < 4 ∧ 4 ≤ (capturing 149 150 4).seq.captureCount ∧
    ¬ (capturing 149 (-151) 4).law.results.phi.natAbs ≤ (capturing 149 (-151) 4).tuning.captureBand ∧
    (atSpeed .engaging 0).seq.mode = .engaging ∧ (latched 79).seq.mode = .safe ∧
    (latched 79).seq.latchHolding = true ∧ (latched 79).law.results.v < (latched 79).tuning.vCap ∧
    (latched 80).tuning.vCap ≤ (latched 80).law.results.v ∧ (atSpeed .safe 0).seq.latchHolding = false := by
  decide

/-- OFF with every check passed: entry 1 enabled and joined, LEAN and RATE served, the pin seated, a
generation of 1. -/
def prepared (m : Mode) : State :=
  let served : QuantityRecord :=
    { QuantityRecord.cleared with state := .held, shown := { state := .held, inUse := .absent } }
  let d := (polling.bus.device 1).valid 0
  seated { inMode m with bus := polling.bus.setDevice 1 d
                         sel := { State.reset.sel with lean := served, rate := served }
                         tables := { State.reset.tables with generation := 1 } }

/-- The five checks passed; the first failing; each mode's clause, at the speed v_cap - 1 and at v_cap, with
a SAFE-class fault and without. -/
theorem witness_ModeDirectives :
    (prepared .off).seq.mode = .off ∧ ((prepared .off).bus.device 1).cfg.enabled = true ∧
    (∀ i : Fin 6, ((prepared .off).bus.device i).cfg.enabled = true →
      ((prepared .off).bus.device i).run.joined = true) ∧
    (prepared .off).sel.lean.shown.state ≠ .lost ∧ (prepared .off).sel.rate.shown.state ≠ .lost ∧
    (prepared .off).seq.lockDrive = .engaged ∧ (prepared .off).tables.generation ≠ 0 ∧
    (prepared .off).faults.safeClassPresent = false ∧
    answerOf .enable [] (prepared .off) = some (.plain .accepted 0) ∧
    answerOf .enable [] State.reset = some (.plain .notReady 1) ∧
    (prepared .held).seq.mode = .held ∧ (prepared .safe).seq.lastSpeed < (prepared .safe).tuning.vCap ∧
    (inMode .safe).seq.lockDrive ≠ .engaged ∧ (inMode .engaging).seq.mode ≠ .safe ∧
    (raise .leanLost 0 (inMode .safe)).faults.safeClassPresent = true ∧
    (raise .leanLost 0 (inMode .safe)).seq.mode = .safe ∧
    (raise .leanLost 0 (raise .speedLost 0 (inMode .safe))).faults.lowestSafeClass = 2 ∧
    (raise .tiltOvercurrent 0 (inMode .safe)).faults.lowestSafeClass = 14 ∧
    (raise .leanFallback 0 (inMode .safe)).faults.safeClassPresent = false ∧
    (channelIn .on).state = .on ∧ (channelIn .tripped).state = .tripped ∧
    ((prepared .held).faults.get .tiltOvercurrent).state = .clear ∧
    ((raise .steerOvercurrent 1 (prepared .held)).faults.get .steerOvercurrent).state ≠ .clear := by decide

/-- R10 and R101: SET_SOURCES takes LEAN to PRIMARY, and ENABLE in the same window still sees the LOST that the
last resolution left. -/
theorem test_enable_after_set_sources :
    let lost := { prepared .off with sel := Selector.cleared }
    let s := stateOf .setSources ([1, 8, 1, 8, 8, 8, 8, 8] ++ wordsOf [2048, 256, 2048, 256]) lost
    s.sel.lean.state = .primary ∧ s.sel.lean.shown.state = .lost ∧
    answerOf .enable [] s = some (.plain .notReady 2) ∧ s.traceValue 12 = 0xFF00 := by decide

/-- Away from the debounced level, back to it, no movement, and in a reset; a contact whose acceptance leaves
the lock drive state, LRQ, and one whose acceptance changes it, LKE. -/
theorem witness_ContactChanges :
    let s := State.reset
    let moved := after (.contactLineChange .lke true) s
    let request := after (.contactLineChange .lrq true) s
    s.phase = .running ∧ true ≠ (s.seq.contact .lke).line ∧ true ≠ (s.seq.contact .lke).level ∧
    false ≠ (moved.seq.contact .lke).line ∧ false = (moved.seq.contact .lke).level ∧
    false = (s.seq.contact .lke).line ∧ (beginPin s).phase ≠ .running ∧
    (request.seq.contact .lrq).debounce = some 5000 ∧
    (request.seq.setContact .lrq { request.seq.contact .lrq with level := true, debounce := none }).lockDrive =
      request.seq.lockDrive ∧
    (moved.seq.contact .lke).debounce = some 5000 ∧
    (moved.seq.setContact .lke { moved.seq.contact .lke with level := true, debounce := none }).lockDrive ≠
      moved.seq.lockDrive := by decide

/-- A mode with lock contact levels, and both lines about to be accepted at the levels given. -/
def locking (m : Mode) (engaged released : Bool) (lke lkr : Bool) : State :=
  { inMode m with seq := { (inMode m).seq with
      lke := { line := lke, level := engaged, debounce := some 0 }
      lkr := { line := lkr, level := released, debounce := some 0 } } }

/-- In HELD the pin leaves; RELEASING fully withdrawn; ENGAGING seated; into CONFLICT and out of it, to ENGAGED
and to RELEASED; changes that leave the mode in each mode. -/
theorem witness_LockDriveChanges :
    let drive (l : Line) (s : State) : LockDrive := (after (.contactAccepted l) s).seq.lockDrive
    let leaves := locking .held true false false false
    let seats := locking .engaging false false true false
    FaultsSafe leaves.faults ∧ (leaves.seq.contact .lke).debounce = some 0 ∧
    leaves.seq.lockDrive = .engaged ∧ drive .lke leaves = .moving ∧
    (locking .releasing false false false true).seq.lockDrive = .moving ∧
    drive .lkr (locking .releasing false false false true) = .released ∧
    seats.seq.lockDrive = .moving ∧ drive .lke seats = .engaged ∧
    (locking .active false true true true).seq.lockDrive ≠ .conflict ∧
    drive .lke (locking .active false true true true) = .conflict ∧
    (locking .safe true true true false).seq.lockDrive = .conflict ∧
    drive .lkr (locking .safe true true true false) = .engaged ∧
    drive .lke (locking .safe true true false true) = .released ∧
    drive .lke (locking .off false false true false) = .engaged ∧
    drive .lkr (locking .capturing false true false false) = .moving ∧
    drive .lke (locking .releasing true false false false) = .moving ∧
    drive .lkr (locking .engaging false true false false) = .moving :=
  ⟨riding_faults, by decide⟩

/-- A mode with the lock limit run out and an attempt count. -/
def limited (m : Mode) (attempts : Nat) : State :=
  { inMode m with seq := { (inMode m).seq with lockLimit := some 0, attemptCount := attempts } }

/-- The policy of LOCK_RELEASE_TIMEOUT at REPORT and at SAFE, the pin out and seated, the attempt count at
1 and at 2. -/
theorem witness_LockLimitExpiries :
    FaultsSafe (limited .releasing 0).faults ∧ (limited .releasing 0).seq.lockLimit = some 0 ∧
    (limited .releasing 0).seq.mode = .releasing ∧
    ((limited .releasing 0).faults.get .lockReleaseTimeout).policyReaction ≠ .safe ∧
    (limited .releasing 0).seq.lockDrive ≠ .engaged ∧
    (seated (limited .releasing 0)).seq.lockDrive = .engaged ∧
    ((stateOf .setFaultPolicy [10, 2, 0] (limited .releasing 0)).faults.get
      .lockReleaseTimeout).policyReaction = .safe ∧
    (limited .engaging 1).seq.mode = .engaging ∧ (limited .engaging 1).seq.attemptCount < 2 ∧
    2 ≤ (limited .engaging 2).seq.attemptCount :=
  ⟨riding_faults, by decide⟩

/-- In OFF for a SAFE kind, and outside it for a REPORT and a DEGRADE kind; an ACTIVE kind to end and a CLEAR
one. -/
theorem witness_RaiseAndEnd :
    State.reset.seq.mode = .off ∧ (State.reset.faults.get .leanLost).policyReaction ≠ .report ∧
    ((inMode .active).faults.get .directiveOverrun).policyReaction = .report ∧
    ((inMode .active).faults.get .supplyLow).policyReaction = .degrade ∧
    ((raise .supplyLow 0 State.reset).faults.get .supplyLow).state = .active ∧
    (State.reset.faults.get .supplyLow).state ≠ .active := by decide

theorem witness_RaiseEntersSafe :
    (inMode .held).seq.mode ≠ .off ∧ (inMode .held).seq.mode ≠ .safe ∧ (inMode .safe).seq.mode = .safe ∧
    ((inMode .safe).faults.get .leanLost).policyReaction = .safe ∧ ((inMode .held).faults.get .leanLost).policyReaction = .safe := by decide

/-- An unanswered kind, in ACTIVE, SAFE and OFF, and an acknowledged one. -/
theorem witness_AckTimerExpiry :
    let r := unanswered.faults.get .steerLost
    r.ackTimer = some 0 ∧ r.state ≠ .clear ∧ r.acknowledged = false ∧ unanswered.seq.mode ≠ .off ∧
    State.reset.seq.mode = .off ∧ (inMode .safe).seq.mode = .safe ∧ ¬ ({ r with acknowledged := true }.acknowledged = false) := by decide

/-- A code that names no kind, and SUPPLY_LOW at CLEAR, ACTIVE and LATCHED. -/
theorem witness_AckAndClearFault :
    let s := raise .supplyLow 0 State.reset
    FaultKind.ofCode (21 : Byte).toNat = none ∧ FaultKind.ofCode (16 : Byte).toNat = some .supplyLow ∧
    FaultKind.ofCode (1 : Byte).toNat = some .leanFallback ∧
    (State.reset.faults.get .supplyLow).state = .clear ∧ (s.faults.get .supplyLow).state = .active ∧
    ((endFault .supplyLow s).faults.get .supplyLow).state = .latched := by decide

/-- A CLEAR kind, a LATCHED momentary one, an ACTIVE one and it LATCHED; the first and the last code; a kind of
each floor. -/
theorem witness_SetFaultPolicy :
    FaultKind.ofCode (0 : Byte).toNat = none ∧ FaultKind.ofCode (1 : Byte).toNat = some .leanFallback ∧
    FaultKind.ofCode (20 : Byte).toNat = some .directiveOverrun ∧
    (State.reset.faults.get .directiveOverrun).state = .clear ∧
    ((raise .directiveOverrun 0 State.reset).faults.get .directiveOverrun).state = .latched ∧
    ((raise .leanFallback 0 State.reset).faults.get .leanFallback).state = .active ∧
    ((endFault .leanFallback (raise .leanFallback 0 State.reset)).faults.get .leanFallback).state = .latched ∧
    FaultKind.leanLost.code ∈ [2, 4, 9, 11, 12, 13, 14] := by decide

/-- R155: a DEGRADE kind that is ACTIVE keeps its record under a policy of SAFE with ack timeout 30, and takes
the policy at its next raise. -/
theorem test_policy_governs_from_next_raise :
    let old := raise .leanFallback 0 State.reset
    let s := stateOf .setFaultPolicy [1, 2, 30] old
    (s.faults.get .leanFallback).reaction = .degrade ∧ (s.faults.get .leanFallback).timeout = 0 ∧
    (s.faults.get .leanFallback).count = 1 ∧
    ((raise .leanFallback 0 s).faults.get .leanFallback).reaction = .safe ∧
    ((raise .leanFallback 0 s).faults.get .leanFallback).timeout = 30 := by decide

/-- A bank that fails check 5 alone. -/
def badBank : Bank :=
  { Bank.defaults with tuning := { Tuning.defaults with supplyLow := 60000, supplyHigh := 60000 } }

/-- A state with the pending bank given and the commit pending or not. -/
def withBank (m : Mode) (b : Bank) (pending : Bool) : State :=
  { inMode m with tables := { State.reset.tables with pendingBank := b, commitPending := pending } }

/-- Table 3-5: a bank for each check that fails it, the first of two failing ones being answered. -/
theorem test_failing_checks :
    let b := Bank.defaults
    let flat : Bank := { b with schedule := Vector.replicate 6 (.atSpeed 100) }
    { b with speedAxis := Vector.replicate 8 5, steerAxis := Vector.replicate 9 0 }.failingCheck = some 1 ∧
    { b with steerAxis := b.steerAxis.set 8 2000 }.failingCheck = some 2 ∧
    { flat with tuning := badBank.tuning }.failingCheck = some 3 ∧
    { badBank with tuning := { badBank.tuning with vCap := 150 } }.failingCheck = some 4 ∧
    badBank.failingCheck = some 5 ∧ b.failingCheck = none := by decide

theorem witness_CommitSwapAndDiscard :
    (withBank .active rideBank true).tables.commitPending = true ∧
    (withBank .held badBank false).tables.pendingBank.failingCheck = some 5 ∧
    (withBank .held rideBank false).tables.commitPending = false ∧
    (withBank .held rideBank false).tables.pendingBank.failingCheck = none ∧
    (withBank .held rideBank false).seq.mode = .held ∧
    (withBank .active rideBank false).seq.mode ≠ .off ∧ (withBank .active rideBank false).seq.mode ≠ .held ∧
    (withBank .held rideBank false).tables.pendingBank ≠ (withBank .held rideBank false).tables.activeBank ∧
    State.reset.tables.pendingBank = State.reset.tables.activeBank := by decide

/-- Row fields at the end of the map and past it; a pending commit and none. -/
theorem witness_LoadsWritePendingBank :
    let last : List Byte := [7, 1]
    let past : List Byte := [7, 2]
    (byteAt last 0 ≤ 7 ∧ 1 ≤ byteAt last 1 ∧ byteAt last 1 ≤ 8 ∧ byteAt last 0 + byteAt last 1 ≤ 8) ∧
    ¬ byteAt past 0 + byteAt past 1 ≤ 8 ∧ (withBank .active rideBank true).tables.commitPending = true ∧
    State.reset.tables.commitPending = false := by decide

/-- Outside OFF and in it; the first and the last entry, and an index past it; a poll on the bus and none. -/
theorem witness_SetDevice :
    (Quantity.ofCode 0).code = 0 ∧ (Quantity.ofCode 3).code = 3 ∧
    5 < byteAt [6] 0 ∧ byteAt [0] 0 = (0 : Fin 6).val ∧ byteAt [5] 0 = (5 : Fin 6).val ∧
    (inMode .held).seq.mode ≠ .off ∧ State.reset.seq.mode = .off ∧
    polling.bus.activity = .poll 1 false false { speed := .mhz1, wire := inertial.wire } ∧
    State.reset.bus.activity = .clear (.clearAt .mhz1) := by decide

/-- SET_BUS in OFF and outside it. Counts of 13 and of 12; three transactions waiting and four; the bus in a
round's polls and free, the round's pass-through used and not. The wire forms: no bytes, written and read. -/
theorem witness_SetBusAndPassThrough :
    let p : PassThrough := { tag := 9, address := 0x50, writes := [], readCount := 0 }
    let idle (queue : List PassThrough) (used : Bool) : Bus :=
      { State.reset.bus with activity := .idle, round := .done, queue := queue, passUsed := used }
    State.reset.seq.mode = .off ∧ (inMode .active).seq.mode ≠ .off ∧
    12 < byteAt [0, 13, 0] 1 ∧ 12 < byteAt [0, 0, 13] 2 ∧ byteAt [0, 12, 12] 1 ≤ 12 ∧
    byteAt [0, 12, 12] 2 ≤ 12 ∧ 4 ≤ (idle [p, p, p, p] false).queue.length ∧
    (idle [p, p, p] false).queue.length < 4 ∧ polling.bus.activity ≠ .idle ∧
    (idle [] true).round = .done ∧ (idle [] true).passUsed = true ∧ (idle [] false).stuck = false ∧
    (idle [] false).activity = .idle ∧ (idle [] false).passUsed = false ∧ p.writes = [] ∧ p.readCount = 0 ∧
    ({ p with writes := [1], readCount := 1 } : PassThrough).writes ≠ [] ∧
    0 < ({ p with writes := [1], readCount := 1 } : PassThrough).readCount := by decide

/-- Section 4.8's entry, one register byte: a NACK to that byte is number 0. -/
theorem witness_BusElements :
    1 ≤ inertial.readLength ∧ ([0x81, 0x00, 0xFC, 0x0C] : List Byte).length = inertial.readLength ∧
    0 < inertial.registerBytes.length := by decide

/-- A READY bus at rest, entry 1 and entry 4 enabled or none, the given round, and one pass-through waiting. -/
def resting (present : Bool) (r : Round) (used : Bool) : Bus :=
  let p : PassThrough := { tag := 9, address := 0x50, writes := [0], readCount := 2 }
  let d : Device := { Device.cleared with cfg := { inertial with enabled := present } }
  ({ State.reset.bus with activity := .idle, round := r, passUsed := used, queue := [p] } : Bus)
    |>.setDevice 1 d |>.setDevice 4 d

/-- What a freed bus takes up (R75, R81): after entry 1 the poll of entry 4; after entry 4, and where none is
enabled, the pass-through; nothing where the round has had one or has not begun, or the bus is STUCK. -/
theorem test_taken_up :
    let polls (b : Bus) (i : Fin 6) : Prop :=
      b.activity = .poll i false false { speed := .mhz1, wire := inertial.wire }
    polls (resting true (.polling none) false).free 1 ∧ polls (resting true (.polling (some 1)) false).free 4 ∧
    (resting true (.polling (some 4)) false).free.passUsed = true ∧
    (resting true (.polling (some 4)) false).free.round = .done ∧
    (resting false (.polling none) false).free = (resting false .done false).free ∧
    (resting true (.polling (some 4)) true).free.activity = .idle ∧
    (resting true .notStarted false).free = resting true .notStarted false ∧
    { resting true .done false with stuck := true }.free = { resting true .done false with stuck := true } := by
  decide

/-- A bus at rest, one with its clear in progress, and a stuck one; entry 1 enabled, entry 0 not; a READY bus
that rests, with entries enabled and with none. -/
theorem witness_RoundTimerExpiry :
    polling.bus.timer = some 2000 ∧ (polling.bus.device 0).cfg.enabled = false ∧
    (polling.bus.device 1).cfg.enabled = true ∧ polling.bus.activity ≠ .idle ∧
    (after (.busClearComplete false true) State.reset).bus.stuck = true ∧
    (after (.busClearComplete false true) State.reset).bus.activity = .idle ∧
    (∀ j : Fin 6, j < 1 → (polling.bus.device j).cfg.enabled = false) ∧ polling.bus.stuck = false ∧
    (resting true .done true).stuck = false ∧ (resting true .done true).activity = .idle ∧
    (∀ i : Fin 6, ((resting false .done true).device i).cfg.enabled = false) ∧
    (resting false .done true).expiry.passUsed = true := by
  decide

/-- A sample that passes, one whose status fails, and one whose step is 1 too great; an entry enabled above the
one polled, and none; a poll of the round that an expiry has ended. -/
theorem witness_PollComplete :
    let d := polling.bus.device 1
    let joined := d.valid (-5918)
    polling.bus.activity = .poll 1 false false { speed := .mhz1, wire := inertial.wire } ∧
    Transaction.result { speed := .mhz1, wire := inertial.wire } (readLevels 3 [0x81, 0x00, 0xFC, 0x0C]) =
      .bytes [0x81, 0x00, 0xFC, 0x0C] ∧
    Transaction.result { speed := .mhz1, wire := inertial.wire } (.levels [true]) = .nackAddress false ∧
    inertial.statusPasses [0x81, 0x00, 0xFC, 0x0C] = true ∧
    inertial.statusPasses [0x01, 0x00, 0xFC, 0x0C] = false ∧
    joined.run.joined = true ∧ inertial.maxStep < (-3917 - joined.run.last).natAbs ∧
    (∃ j : Fin 6, 1 < j ∧ ((resting true .done true).device j).cfg.enabled = true) ∧
    (¬ ∃ j : Fin 6, 1 < j ∧ (polling.bus.device j).cfg.enabled = true) ∧
    (after .roundTimerExpiry polling).bus.activity =
      .poll 1 true false { speed := .mhz1, wire := inertial.wire } ∧
    (readLevels 3 [0x81, 0x00, 0xFC, 0x0C]) ≠ .lineLow ∧
    ¬ inertial.maxStep < (-3918 - joined.run.last).natAbs := by decide

theorem witness_PassThroughComplete :
    ∃ x p rest, passing.bus.activity = .passThrough x ∧ passing.bus.queue = p :: rest := ⟨_, _, _, rfl, rfl⟩

/-- R81 and R85: with both lines high the round has had its pass-through and the bus rests; a low line before the
start leaves the round its one pass-through (log entry 36). -/
theorem test_after_pass_through :
    let ended := after (.passThroughComplete (readLevels 3 [1, 2]) true) passing
    let low := after (.passThroughComplete .lineLow true) passing
    ended.bus.activity = .idle ∧ ended.bus.passUsed = true ∧ low.bus.passUsed = false ∧
    (after (.busClearComplete true true) low).bus.passUsed = true := by decide

/-- The poll's entry rewritten while it is on the bus. -/
def discarding : State :=
  { polling with bus := { polling.bus with
      activity := .poll 1 false true { speed := .mhz1, wire := inertial.wire } } }

/-- A clear on a READY and on a STUCK bus; a poll, one whose result is discarded, and a pass-through held. -/
theorem witness_BusClears :
    (let stuck := after .roundTimerExpiry (after (.busClearComplete false true) State.reset)
    State.reset.bus.activity = .clear (.clearAt .mhz1) ∧ State.reset.bus.stuck = false ∧
    stuck.bus.activity = .clear (.clearAt .mhz1) ∧ stuck.bus.stuck = true ∧
    (stuck.faults.get .sensorBusStuck).state = .active ∧
    polling.bus.activity = .poll 1 false false { speed := .mhz1, wire := inertial.wire } ∧
    discarding.bus.activity = .poll 1 false true { speed := .mhz1, wire := inertial.wire }) ∧
    ∃ x p rest, passing.bus.activity = .passThrough x ∧ passing.bus.queue = p :: rest :=
  ⟨by decide, witness_PassThroughComplete⟩

/-- A first pulse; an interval of 1999 µs, rejected, and of 2000 µs, accepted, on a period of 5000 µs; one of
400001 µs on a NOISY wheel, taken as a first pulse, and on a ROLLING one; runs of 6, 7, 2 and 3. -/
theorem witness_WheelPulse :
    State.reset.phase = .running ∧ (State.reset.wheels.get .rear).reference = none ∧
    (rolling 542 5000 0).state = .rolling ∧ (rolling 542 5000 0).reference = some 0 ∧
    (rolling 542 5000 0).lastPeriod = some 5000 ∧ ((1999 : Stamp) - 0).toNat * 100 < 40 * 5000 ∧
    40 * 5000 ≤ ((2000 : Stamp) - 0).toNat * 100 ∧ 400000 < ((400001 : Stamp) - 0).toNat ∧
    { rolling 542 5000 0 with state := .noisy, acceptRun := 3 }.state = .noisy ∧
    7 ≤ { rolling 542 5000 0 with rejectRun := 7 }.rejectRun ∧
    3 ≤ { rolling 542 5000 0 with state := .noisy, acceptRun := 3 }.acceptRun := by decide

/-- The timer running and no computation in progress. At 10835 µs a wheel on a period of 5417 µs is overdue
and at 10834 µs it is not; beyond 400000 µs it stops. Three wheels rolling with none set aside, with the slow
one set aside, and none valid for the ninth and the tenth time. -/
theorem witness_WheelEvaluationAndFusion :
    let t := { Tracker.cleared with
      frontLeft := rolling 500 5417 0, frontRight := rolling 470 5762 0, rear := rolling 480 5642 0 }
    let u := { t with frontLeft := rolling 135 20000 0 }
    let noisy (w : WheelRecord) : WheelRecord := { w with state := .noisy }
    let none_ := { t with frontLeft := noisy t.frontLeft, frontRight := noisy t.frontRight, rear := noisy t.rear }
    State.reset.law.timer = some 2000 ∧ State.reset.law.computing = none ∧
    ((rolling 500 5417 0).evaluate 10835).state = .decaying ∧
    ((rolling 500 5417 0).evaluate 10834).state = .rolling ∧
    ((rolling 500 5417 0).evaluate 400001).state = .stopped ∧
    t.fused = some 480 ∧ t.validCount = 3 ∧ u.fused = some 470 ∧ u.validCount = 2 ∧ u.allRolling = true ∧
    none_.fused = none ∧ none_.validCount = 0 ∧ { none_ with holdCount := 9 }.hold.holdCount = 10 := by
  decide

/-- R103 and R117: SET_WHEEL clamps both its values and counts them; what the last computation left stays shown. -/
theorem test_set_wheel :
    let s := { State.reset with wheels := { Tracker.cleared with
      rear := { rolling 500 5417 0 with shown := { state := .rolling, speed := 500 } } } }
    let t := stateOf .setWheel ([2, 15] ++ wordsOf [2501]) s
    answerOf .setWheel ([2, 15] ++ wordsOf [2501]) s = some (.plain .acceptedClamped 2) ∧
    t.wheels.rear = { WheelRecord.stoppedWith 16 2500 with shown := { state := .rolling, speed := 500 } } ∧
    t.wheels.rear.arc = 156250 := by decide

/-- A wheel code past the last, and each wheel's; in OFF and outside it. -/
theorem witness_SetWheel :
    2 < byteAt [3] 0 ∧ byteAt [0] 0 = Wheel.frontLeft.code ∧ byteAt [2] 0 = Wheel.rear.code ∧
    State.reset.seq.mode = .off ∧ (inMode .held).seq.mode ≠ .off := by decide

/-- Source codes at the edge for a quantity: 6 for LEAN and not for RATE, 7 for RATE, 8 and 9. -/
theorem witness_SetSources :
    (Source.ofCode 0).code = 0 ∧ (Source.ofCode 5).code = 5 ∧ (Source.ofCode 8).code = 8 ∧
    State.reset.seq.mode = .off ∧ (inMode .held).seq.mode ≠ .off ∧
    answerOf .setSources ([6, 8, 7, 6, 8, 9, 8, 8] ++ wordsOf [4096, 256, 4095, 256]) State.reset =
      some (.plain .acceptedClamped 3) := by decide

/-- LEAN with entry 1 as primary, joined or not, and the lean potentiometer as fallback, fresh or not. -/
def leaning (joined potFresh : Bool) (st : QuantityState) (holds returns : Nat) : State :=
  { polling with
    bus := polling.bus.setDevice 1 { Device.cleared with run := { Device.cleared.run with joined := joined } }
    conv := { polling.conv with leanPot := if potFresh then 3995 else 3996 }
    sel := { polling.sel with lean := { primary := .device 1, fallback := .pot, state := st, inUse := .absent,
                                        held := 7, holdCount := holds, returnCount := returns,
                                        raised := .nothing, shown := { state := st, inUse := .absent } } } }

/-- Whether LEAN's primary and fallback are fresh in a state. -/
def leanFresh (s : State) : Bool × Bool :=
  (s.sourceFresh .lean s.sel.lean.primary, s.sourceFresh .lean s.sel.lean.fallback)

theorem witness_SourceResolution :
    leanFresh (leaning true false .held 9 0) = (true, false) ∧
    leanFresh (leaning true false .fallback 0 9) = (true, false) ∧
    leanFresh (leaning false false .lost 10 0) = (false, false) ∧
    (leaning false true .lost 10 0).sel.lean.state = .lost ∧
    leanFresh (leaning false true .primary 0 0) = (false, true) ∧
    leanFresh (leaning false false .fallback 0 0) = (false, false) ∧
    (leaning false false .held 8 0).sel.lean.holdCount < 9 ∧
    9 ≤ (leaning false false .held 9 0).sel.lean.holdCount ∧
    leanFresh (leaning true true .fallback 0 24) = (true, true) ∧
    24 ≤ (leaning true true .fallback 0 24).sel.lean.returnCount ∧
    (leaning true true .fallback 0 23).sel.lean.returnCount < 24 ∧ Quantity.rate ≠ .lean ∧
    ({ (leaning true false .primary 0 0).sel.lean with inUse := .device 1 } : QuantityRecord).inUse =
      (leaning true false .primary 0 0).sel.lean.primary := by decide

/-- R95 and Table 5-6: FALLBACK with the primary fresh and the fallback not is PRIMARY at once; LOST with
neither stays LOST. -/
theorem test_fallback_and_lost :
    let moved (s : State) := (resolve .held .lean 0 s).1.sel.lean
    (moved (leaning true false .fallback 0 9)).state = .primary ∧
    (moved (leaning false false .lost 10 0)).state = .lost ∧
    (moved (leaning false false .lost 10 0)).holdCount = 10 := by decide

/-- A source in use that changes and one that stays; the condition called for differing from the one raised,
and the same. -/
theorem witness_SourceReports :
    let lost := leaning false false .held 9 0
    (resolve .held .lean 0 (leaning false true .primary 0 0)).1.sel.lean.inUse ≠ .absent ∧
    (resolve .held .lean 0 lost).1.sel.lean.inUse = lost.sel.lean.inUse ∧
    (resolve .held .lean 0 lost).1.sel.lean.raised ≠ lost.sel.lean.raised ∧
    (resolve .off .lean 0 lost).1.sel.lean.raised = lost.sel.lean.raised := by decide

/-- R92 and Table 5-2: the window of a potentiometer at its ends; an entry's value saturated. -/
theorem witness_SourceValues :
    let reads (raw : Int) : State := { State.reset with conv := { State.reset.conv with leanPot := raw } }
    (reads 99).sourceFresh .lean .pot = false ∧ (reads 100).sourceFresh .lean .pot = true ∧
    (reads 3995).sourceFresh .lean .pot = true ∧ (reads 3996).sourceFresh .lean .pot = false ∧
    (State.reset.sel.lean.state = .primary ∨ State.reset.sel.lean.state = .fallback ↔
      State.reset.sourceFresh .rate .derived = true) := by decide

/-- Each position of the chain is reached; the logic supply at 3000 and 3600 mV and beyond either. -/
theorem witness_NormalConversionComplete :
    State.reset.conv.normal = some 10 ∧ State.reset.conv.position = .an0 ∧
    (after (.normalConversionComplete 0) State.reset).conv.position = .an1 ∧
    (3000 : Int) ≤ 3000 ∧ (3600 : Int) ≤ 3600 ∧ ¬ (3000 : Int) ≤ 2999 ∧ ¬ (3601 : Int) ≤ 3600 := by decide

/-- The three limits: a sample 1 beyond and one at it, 1 short of the way back and at it; the run at 8 and at
9; the other bridge hot. -/
theorem witness_ThresholdRuns :
    State.reset.conv.low.raised = false ∧ (35999 : Int) < State.reset.tuning.supplyLow ∧
    State.reset.tuning.supplyLow ≤ (36000 : Int) ∧
    (State.reset.tuning.supplyLow : Int) + 1000 ≤ 37000 ∧
    (36999 : Int) < (State.reset.tuning.supplyLow : Int) + 1000 ∧
    State.reset.tuning.supplyHigh < (60001 : Int) ∧ (59000 : Int) ≤ State.reset.tuning.supplyHigh - 1000 ∧
    State.reset.tuning.hotLimit < (1201 : Int) ∧ (1099 : Int) < State.reset.tuning.hotLimit - 100 ∧
    (ThresholdRun.mk true 8).run < 9 ∧ 9 ≤ (ThresholdRun.mk true 9).run ∧
    (State.reset.conv.hot .tilt).raised = false ∧
    ((State.reset.conv.setHot .steer ⟨true, 0⟩).hot Bridge.tilt.other).raised = true := by decide

/-- R126 and R127: the tenth sample above the limit raises SUPPLY_HIGH; BRIDGE_HOT is raised for the steer
bridge, and not again for the tilt bridge while it stands. -/
theorem test_high_and_hot :
    let nine : ThresholdRun := { raised := false, run := 9 }
    let s := { State.reset with conv := { State.reset.conv with high := nine, hotTilt := nine,
                                                                hotSteer := nine } }
    let one := sampleHot .steer 1201 s
    ((sampleHigh 60001 s).faults.get .supplyHigh).state = .active ∧
    (sampleHigh 60000 s).conv.high = { raised := false, run := 0 } ∧
    (one.faults.get .bridgeHot).lastInstance = 1 ∧ (one.faults.get .bridgeHot).count = 1 ∧
    ((sampleHot .tilt 1201 one).faults.get .bridgeHot).count = 1 := by decide

/-- A channel's applied duty at 1, 0 and -1, 24 ns and 26 ns from the centre; HOLD before and after a period's
start, 9999 ns and 10001 ns from it. Timers running, a channel ON and one OFF, the stages HOLD and PULL-IN, the
command on and off. -/
theorem witness_TriggerPeriodAndSolenoid :
    (0 : Int) < 1 ∧ (-1 : Int) < 0 ∧ ((25024 : Int) - 25000).natAbs < 25 * (1 : Int).natAbs ∧
    25 * (-1 : Int).natAbs < ((24974 : Int) - 25000).natAbs ∧ (channelIn .on).applied = 0 ∧
    ((15001 : Int) - 25000).natAbs < 10000 ∧ 10000 < ((35001 : Int) - 25000).natAbs ∧
    riding.drive.holdDriven = true ∧ ({ riding.drive with holdDriven := false } : Drive).stage = .hold ∧
    State.reset.drive.stage = .off ∧
    riding.conv.centre = some 25 ∧ riding.drive.period = some 50 ∧ riding.drive.tilt.state = .on ∧
    riding.drive.stage = .hold ∧ State.reset.drive.steer.state ≠ .on ∧
    (setSolenoid true State.reset).drive.stage = .pullIn ∧
    (setSolenoid true State.reset).drive.pullIn = some 60000 ∧ State.reset.seq.solenoid = false ∧
    riding.seq.solenoid = true := by decide

/-- Both channels ON, with currents at the trip current; the integrator at its limit, and errors whose test duty
passes the limit on either side. -/
theorem witness_InjectedComplete :
    let s := { riding with conv := { riding.conv with injected := some 0 } }
    s.conv.injected = some 0 ∧ s.drive.tilt.state = .on ∧
    ((((3714 : BitVec 12).toNat : Int) - 2048) * 15).natAbs ≤ s.tuning.tripCurrent ∧
    State.reset.drive.tilt.state ≠ .on ∧
    (3891200 : Int).natAbs ≤ 3891200 ∧ 950 < rdiv ((800 : Nat) * 3 + 3891200) 4096 ∧
    rdiv ((800 : Nat) * -3 + -3891200) 4096 < -950 ∧ ({ Tuning.defaults with ki := 0 } : Tuning).ki = 0 := by
  decide

/-- A tilt current of 25005 mA with the run at 2, the steer channel's run at 2 and at 0, in ACTIVE; the same in
OFF; and 24990 mA. -/
theorem witness_OverCurrentTrip :
    let i : Int := (((3715 : BitVec 12).toNat : Int) - 2048) * 15
    FaultsSafe overloaded.faults ∧ overloaded.conv.injected = some 0 ∧
    (overloaded.drive.channel .tilt).state = .on ∧ overloaded.tuning.tripCurrent < i.natAbs ∧
    2 ≤ (overloaded.drive.channel .tilt).overRun ∧ (overloaded.drive.channel .steer).state = .on ∧
    ¬ 2 ≤ (overloaded.drive.channel .steer).overRun ∧
    ¬ overloaded.tuning.tripCurrent < (i - 15).natAbs ∧
    ¬ (overloaded.seq.mode = .off ∨ overloaded.seq.mode = .safe) ∧ State.reset.seq.mode = .off :=
  ⟨riding_faults, by decide⟩

theorem witness_ResetEndsAndAccessesBefore :
    State.reset.phase = .running ∧ (beginSoft riding).phase ≠ .running := by decide

/-- Each register's word, a write that leaves bit 1 clear, and the first and the last word of the scratch. -/
theorem witness_RegisterAndScratchAccesses :
    MemorySafe State.reset.port ∧ State.reset.phase = .running ∧ State.reset.port.inProgress = none ∧
    placeOf 0x1FF0 = .xstat ∧ placeOf 0x1FF2 = .xstatHold ∧ placeOf 0x1FF4 = .xcause ∧
    placeOf 0x1FF6 = .xcauseEn ∧ placeOf 0x1FF8 = .xctrl ∧ placeOf 0x1FFA = .unused ∧
    placeOf 0x1FFE = .unused ∧ (0xFFFD : Word) &&& 2 = 0 ∧
    inScratch 0x1600 = true ∧ inScratch 0x1FEE = true := by
  decide

/-- A running part with its window in a state and the port in a mode. -/
def windowed (w : Window) (m : PortMode) : State :=
  { State.reset with port := { State.reset.port with window := w, mode := m } }

/-- The first and the last word of the guarded region, each window state and port mode; a read and a write in
progress. -/
theorem witness_GuardedAccess :
    (windowed .opened .noWait).phase = .running ∧ (windowed .opened .noWait).port.inProgress = none ∧
    inGuarded 0x0000 = true ∧ inGuarded 0x15FE = true ∧ (windowed .closed .wait).port.window = .closed ∧
    (windowed .closed .wait).port.opensAtCompletion = false ∧
    (windowed .deferred .wait).port.window = .deferred ∧ (windowed .opened .wait).port.mode = .wait ∧
    (windowed .opened .noWait).port.mode = .noWait ∧ (windowed .deferred .wait).port.window ≠ .opened ∧
    (after (.hostGuardedAccess (.begins 0x0000 .read)) State.reset).port.inProgress =
      some { addr := 0x0000, op := .read } ∧
    (after (.hostGuardedAccess (.begins 0x15FE (.write 9))) (windowed .deferred .wait)).port.inProgress =
      some { addr := 0x15FE, op := .write 9 } := by decide

/-- A hold armed and none, an access in progress and none, at the exchange timer and at the deferral limit. -/
theorem witness_TimerExpiries :
    let held := after .xstatHoldRead State.reset
    let busy := after (.hostGuardedAccess (.begins 0x0000 .read)) State.reset
    let deferred := after .exchangeTimerExpiry held
    let both := after (.hostGuardedAccess (.begins 0x0000 .read)) deferred
    held.port.timer = some 1000 ∧ held.port.window = .closed ∧ held.port.holdArmed = true ∧
    busy.port.holdArmed = false ∧ busy.port.inProgress ≠ none ∧ State.reset.port.inProgress = none ∧
    deferred.port.deferral = some 100 ∧ deferred.port.inProgress = none ∧
    both.port.deferral = some 100 ∧ both.port.inProgress ≠ none := by decide

/-- An open window with a number of frames waiting. -/
def waiting (close : Word) : State :=
  { windowed .opened .wait with port := { (windowed .opened .wait).port with
      mem := Memory.writeWord [] 0x0000 close } }

/-- A ring with a number of equal reports waiting. -/
def queued (n : Nat) : State :=
  let rep : Report := { aux := 0, cycle := 0, body := .tablesSwapped 1 }
  { State.reset with port := { State.reset.port with
      event := { Ring.cleared with queue := List.replicate n rep }
      trace := { Ring.cleared with queue := List.replicate n rep } } }

/-- A window OPEN and CLOSED; none, 16 and 17 frames waiting; each other phase that RSTN can find. -/
theorem witness_ResetsBegin :
    riding.phase = .running ∧ riding.port.window ≠ .opened ∧ riding.port.inProgress = none ∧
    (2 : Word) &&& 2 ≠ 0 ∧ (beginSoft riding).phase = .soft 10 ∧ (beginPin riding).phase = .pin ∧
    (beginPowerOn riding).phase = .powerOn ∧ (waiting 0).phase = .running ∧
    (waiting 17).port.window = .opened ∧ (waiting 17).port.inProgress = none ∧
    (waiting 17).port.held = [] ∧ MemorySafe (waiting 17).port ∧
    16 < (waiting 17).port.waiting ((waiting 17).port.mem.readWord 0) ∧
    (waiting 16).port.waiting ((waiting 16).port.mem.readWord 0) = 16 ∧
    (waiting 0).port.waiting ((waiting 0).port.mem.readWord 0) = 0 := by decide

/-- 0, 1, 16 and 17 frames waiting; a held access and none; each ring publishing and not. -/
theorem witness_WindowRuns :
    (waiting 17).port.window = .opened ∧ 16 < (waiting 17).port.waiting ((waiting 17).port.mem.readWord 0) ∧
    (waiting 16).port.waiting ((waiting 16).port.mem.readWord 0) = 16 ∧
    (waiting 1).port.waiting ((waiting 1).port.mem.readWord 0) = 1 ∧
    (waiting 0).port.waiting ((waiting 0).port.mem.readWord 0) = 0 ∧ (waiting 0).port.held = [] ∧
    (after (.hostGuardedAccess (.whole 0x0000 .read)) (waiting 0)).port.held =
      [{ addr := 0x0000, op := .read }] ∧
    ((queued 1).port.serveRings 0 0).event.publish ≠ (queued 1).port.event.publish ∧
    ((queued 1).port.serveRings 0 0).trace.publish ≠ (queued 1).port.trace.publish ∧
    ((waiting 0).port.serveRings 0 0).event.publish = (waiting 0).port.event.publish := by decide

/-- R169 and R170: a window that takes no frame and publishes nothing sets no cause; on an overrun its
FAULT_CHANGED is published, and DIRECTIVES_TAKEN stays clear. -/
theorem test_causes_of_a_window :
    (after .windowOpen (waiting 0)).port.cause = 1 ∧ (after .windowOpen (waiting 17)).port.cause = 5 := by
  decide +kernel

/-- R166: two held accesses are served in order at the close: the read returns what the write before it
stored. -/
theorem test_held_accesses :
    let s := after (.hostGuardedAccess (.whole 0x15FE (.write 0xBEEF))) (windowed .opened .wait)
    let t := after .windowOpen (after (.hostGuardedAccess (.whole 0x15FE .read)) s)
    t.port.window = .closed ∧ t.port.held = [] ∧ t.port.adData = 0xBEEF := by decide +kernel

theorem witness_WindowWritesRecords :
    MemorySafe (waiting 17).port ∧ (waiting 17).port.window = .opened ∧ (waiting 17).port.held = [] := by
  decide

/-- A bad entry (of zeros), a misplaced one and one in place; a kind byte of 21; a body too long, one that does
not reach its count, one that fits; and a directive without an answer yet. -/
theorem witness_FrameIntakeAndDecode :
    ¬ 2 ≤ (State.reset.port.mem.readWord 0x0102).toNat ∧
    (misplaced.port.mem.readWord 0x0124).toNat ≠ misplaced.port.expected ∧
    (misplaced.port.mem.readWord 0x0126).toNat = 2 ∧
    (1, Directive.enable) ∈ [(1, Directive.enable)] ∧ ¬ ([0] : List Byte).length = 0 ∧
    ¬ 2 ≤ ([1] : List Byte).length ∧ (20 : Nat) < (21 : Byte).toNat ∧
    ([0, 0, 0] : List Byte).length = 3 + (([0, 0, 0] : List Byte).getD 1 0).toNat ∧
    (deliver .passThrough 0 [0, 0, 0] State.reset).2 = none ∧
    (deliver .enable 0 [] State.reset).2 = some (.plain .notReady 1) := by decide

/-- The event queue at 15 and 16, the trace queue at 7 and 8, and a kind mapped to each destination. -/
theorem witness_StagedReports :
    let body : ReportBody := .trace []
    let dropped := stateOf .setReportMap [0, 0, 0, 0, 0, 2] State.reset
    (queued 15).port.event.queue.length < 16 ∧ 16 ≤ (queued 16).port.event.queue.length ∧
    (queued 7).port.trace.queue.length < 8 ∧ 8 ≤ (queued 8).port.trace.queue.length ∧
    State.reset.port.map.destination body = .trace ∧ dropped.port.map.destination body = .discard ∧
    State.reset.port.map.destination (.tablesSwapped 1) = .event := by decide

/-- A ring with 15 frames of 10 bytes published, and a report at its head. -/
def ringOf (n : Nat) : Ring :=
  { Ring.cleared with publish := 200, released := 200 - BitVec.ofNat 16 n, writePos := 1022,
                      queue := [{ aux := 40, cycle := 0, body := .tablesSwapped 1 }],
                      footprints := List.replicate n 10 }

theorem ringOf_safe : RingSafe .event (ringOf 15) := by constructor <;> decide

/-- A host count at the last published frame, and one past it. -/
theorem witness_ReleaseCountTake :
    RingSafe .event (ringOf 15) ∧ ((200 : Word) - (ringOf 15).released).toNat = 15 ∧
    15 < ((201 : Word) - (ringOf 15).released).toNat := ⟨ringOf_safe, by decide, by decide⟩

/-- A ring with room for the sixteenth frame, written across the area's end, a full one, and an empty queue. -/
theorem witness_PublishReports :
    let p := { State.reset.port with event := ringOf 15 }
    (MemorySafe p ∧ (p.ring .event).queue = [{ aux := 40, cycle := 0, body := .tablesSwapped 1 }] ∧
      (p.ring .event).footprints.length < 16 ∧ 6 + (p.ring .event).footprints.sum ≤ 1024 ∧
      ({ aux := 0, cycle := 0, body := .modeChanged .off .held .directive } : Report).frame.length = 7 ∧
      16 ≤ (ringOf 16).footprints.length ∧ (State.reset.port.ring .trace).queue = []) ∧
    RingSafe .event (p.ring .event) ∧ RingSafe .event (ringOf 16) :=
  ⟨by decide, ringOf_safe, by constructor <;> decide⟩

/-- R175: of five reports waiting in each ring a window publishes four. -/
theorem test_four_a_window :
    let p := (queued 5).port.serveRings 0 0
    p.event.publish = 4 ∧ p.trace.publish = 4 ∧ p.event.queue.length = 1 ∧ p.trace.queue.length = 1 := by
  decide +kernel

/-- Codes 0, 1 and 2 and one above them. The first eight codes, at 0, 1, 30 and 31; a decimation of 250 and
251. The trace off, at its decimation, and one before it. -/
theorem witness_TraceAndReportMap :
    let on (counter : Nat) : State := { riding with port := { riding.port with
      selection := { codes := [1], decimation := 2, counter := counter } } }
    answerOf .setReportMap [3, 2, 1, 0, 1, 2] State.reset = some (.plain .acceptedClamped 2) ∧
    answerOf .setTrace [251, 4, 0, 1, 30, 31] State.reset = some (.plain .acceptedClamped 3) ∧
    (stateOf .setTrace [251, 4, 0, 1, 30, 31] State.reset).port.selection =
      { codes := [1, 30], decimation := 250, counter := 0 } ∧
    State.reset.port.selection.decimation = 0 ∧ (on 0).port.selection.counter + 1 < 2 ∧
    2 ≤ (on 1).port.selection.counter + 1 ∧
    (after .computationComplete (on 1)).port.selection.counter = 0 ∧
    (after .computationComplete (on 1)).port.trace.queue.length = 1 ∧
    riding.law.computing = some { results := { Results.cleared with v := 150 }, age := 3 } := by decide

end Sys2Proof.Tests
end

/-! Rounded division (R1): the natural-number quotient is the nearest one, and the integer division is its
odd extension, so the statement carries over to both signs. -/

namespace Sys2Proof.Proofs
open Sys2Proof.Machine

/-- The quotient `q` is the one with `q - 1/2 ≤ n / b < q + 1/2`, written without fractions. -/
theorem rdivNat_bracket (n : Nat) {b : Nat} (hb : 0 < b) :
    2 * (rdivNat n b * b) ≤ 2 * n + b ∧ 2 * n < 2 * (rdivNat n b * b) + b := by
  have lower : 2 * b * rdivNat n b ≤ 2 * n + b := Nat.mul_div_le _ _
  have upper : 2 * n + b < 2 * b * (rdivNat n b + 1) := Nat.lt_mul_div_succ _ (by omega)
  constructor <;> linarith

/-- The natural-number quotient is nearest (R1): since the bracket is strict above, a half is never below. -/
theorem rdivNat_nearest (n : Nat) {b : Nat} (hb : 0 < b) :
    2 * ((rdivNat n b : Int) * b - n).natAbs ≤ b ∧
      (2 * ((rdivNat n b : Int) * b - n).natAbs = b → n < rdivNat n b * b) := by
  obtain ⟨lower, upper⟩ := rdivNat_bracket n hb
  rw [← Nat.cast_mul]
  constructor <;> omega

theorem rdiv_natCast (n b : Nat) : rdiv n b = rdivNat n b := by
  unfold rdiv
  rw [if_neg (by omega), Int.natAbs_natCast, rdivNat]

/-- Rounding away from zero is symmetric about zero. -/
theorem rdiv_neg_natCast {n : Nat} (hn : 0 < n) (b : Nat) : rdiv (-n) b = -rdivNat n b := by
  unfold rdiv
  rw [if_pos (by omega), Int.natAbs_neg, Int.natAbs_natCast, rdivNat]

/-- Settles O9: a nonnegative dividend is `rdivNat_nearest` itself, and a negative one its mirror image. -/
theorem roundedDivision : Obligations.RoundedDivision := by
  refine ⟨fun a b hb => ?_, fun a b _ => (rdiv_natCast a b).symm⟩
  rcases lt_or_ge a 0 with ha | ha
  case inr =>
    lift a to Nat using ha
    simpa [rdiv_natCast, Int.natAbs_mul] using rdivNat_nearest a hb
  case inl =>
    obtain ⟨n, rfl⟩ : ∃ n : Nat, a = -n := ⟨a.natAbs, by omega⟩
    have mirror : rdiv (-n) b * b - -(n : Int) = -((rdivNat n b : Int) * b - n) := by
      rw [rdiv_neg_natCast (by omega)]
      ring
    rw [mirror, Int.natAbs_neg, rdiv_neg_natCast (by omega)]
    simpa [Int.natAbs_mul] using rdivNat_nearest n hb

end Sys2Proof.Proofs

/-! The cycle end in HELD (R12, R14): the release is the mode change into RELEASING, and what it leaves is read
off `State.modeChanged`, field by field. -/

namespace Sys2Proof.Proofs
open Sys2Proof.Machine

/-- A channel wanted ON: from OFF it enters ON, and in any other state it keeps what it holds (R133). -/
theorem given_wantedOn (kindClear : Bool) (c : Channel) :
    c.given true kindClear =
      if c.state = .off then
        { state := .on, wanted := true, setpoint := c.setpoint, integrator := 0, duty := 0, applied := 0
          overRun := 0 }
      else { c with wanted := true } := if_pos rfl

/-- An entry into RELEASING, whole. -/
theorem enterReleasing_eq (c : ModeCause) (s : State) :
    enterMode .releasing c s = s.modeChanged c
      { s.seq with solenoid := true, mode := .releasing, lockLimit := some 150000, latchHolding := false }
      true true := changeMode_eq ..

/-- The cycle end in HELD, whole: the speed kept beforehand shows only in the sequencer the change leaves. -/
theorem cycleEnd_of_held {s : State} (held : s.seq.mode = .held) :
    cycleEnd s =
      if s.seq.lockRequested = false ∧ s.tuning.vRel ≤ s.law.results.v ∧ s.seq.holdOff = none
          ∧ s.faults.safeClassPresent = false then
        s.modeChanged .speed
          { s.seq with mode := .releasing, solenoid := true, lockLimit := some 150000,
                       latchHolding := false, lastSpeed := s.law.results.v } true true
      else { s with seq := { s.seq with lastSpeed := s.law.results.v } } := by
  have dispatch : cycleEnd s =
      cycleEndHeld s.law.results.v { s with seq := { s.seq with lastSpeed := s.law.results.v } } := by
    simp only [cycleEnd, held]
  rw [dispatch, cycleEndHeld, enterReleasing_eq, State.modeChanged_of_seq] <;> rfl

/-- Settles O16: either branch of `cycleEnd_of_held`, the release one against what a mode change leaves. -/
theorem cycleEndInHeld : Obligations.CycleEndInHeld := by
  intro s held
  dsimp only
  rw [cycleEnd_of_held held]
  refine ⟨fun release => ?_, fun kept => if_neg kept⟩
  rw [if_pos release]
  simp [State.modeChanged, given_wantedOn, held]

end Sys2Proof.Proofs

/-! The schedule over the speed (R35) and what it feeds (R36, R37): rising speeds make the segment of a speed
unique, so the column is read off there, and it lies within the span of its entries. -/

namespace Sys2Proof.Proofs
open Sys2Proof.Machine

theorem clampInt_of_le {lo hi x : Int} (range : lo ≤ hi) (low : x ≤ lo) : clampInt lo hi x = lo := by
  unfold clampInt
  split
  · rfl
  · rw [if_neg (by omega)]
    omega

theorem clampInt_of_ge {lo hi x : Int} (range : lo ≤ hi) (high : hi ≤ x) : clampInt lo hi x = hi := by
  unfold clampInt
  rw [if_neg (by omega)]
  split <;> omega

/-- A value interpolated between two entries stays in every range both entries are in: the part of the way
covered leads at most from the one to the other. -/
theorem interpolation_bounds {p q lo hi x : Int} {width : Nat} (pos : 0 < width)
    (hp : lo ≤ p ∧ p ≤ hi) (hq : lo ≤ q ∧ q ≤ hi) (hx : 0 ≤ x ∧ x ≤ width) :
    lo ≤ p + rdiv ((q - p) * x) width ∧ p + rdiv ((q - p) * x) width ≤ hi := by
  have move := rdiv_bounds (a := (q - p) * x) (lo := lo - p) (hi := hi - p) pos
    (by nlinarith) (by nlinarith)
  omega

theorem strictlyRising_iff_isChain (l : List Int) : strictlyRising l = true ↔ l.IsChain (· < ·) := by
  induction l with
  | nil => simp [strictlyRising]
  | cons a l ih =>
    cases l with
    | nil => simp [strictlyRising]
    | cons b l => rw [strictlyRising, List.isChain_cons_cons, ← ih, Bool.and_eq_true, decide_eq_true_iff]

/-- A strictly rising list rises between any two places, not only neighbouring ones. -/
theorem strictlyRising_getElem_lt {l : List Int} (rising : strictlyRising l = true) {i j : Nat}
    (hij : i < j) (hj : j < l.length) : l[i] < l[j] := by
  have pairwise := List.isChain_iff_pairwise.mp ((strictlyRising_iff_isChain l).mp rising)
  exact List.pairwise_iff_getElem.mp pairwise i j (hij.trans hj) hj hij

/-- The segment is the index whose breakpoint is reached and above which none is; index 0 needs no reached
breakpoint. -/
theorem segment_eq {breakpoint : Nat → Int} {x : Int} {k top : Nat} (hk : k ≤ top)
    (reached : k = 0 ∨ breakpoint k ≤ x) (above : ∀ j, k < j → j ≤ top → x < breakpoint j) :
    Machine.segment breakpoint x top = k := by
  induction top with
  | zero => rw [Machine.segment]; omega
  | succ n ih =>
    rw [Machine.segment]
    rcases Nat.lt_or_eq_of_le hk with below | rfl
    · rw [if_neg (by have := above (n + 1) below le_rfl; omega)]
      exact ih (by omega) fun j hkj hj => above j hkj (by omega)
    · rw [if_pos (by omega)]

theorem scheduleSpeeds_getElem (b : Bank) {k : Nat} (hk : k < b.scheduleSpeeds.length) :
    b.scheduleSpeeds[k] = (b.point k).speed := by
  have hk' : k < 6 := by simpa [Bank.scheduleSpeeds] using hk
  simp [Bank.scheduleSpeeds, Bank.point, entry, hk']

/-- A speed within the schedule's range lies in one of its five segments. -/
theorem exists_segment {b : Bank} {v : Nat} (first : (b.point 0).speed ≤ v) (last : v < (b.point 5).speed) :
    ∃ k < 5, (b.point k).speed ≤ v ∧ v < (b.point (k + 1)).speed := by
  by_contra nowhere
  push Not at nowhere
  have reached : ∀ k ≤ 5, (b.point k).speed ≤ v := by
    intro k hk
    induction k with
    | zero => exact first
    | succ k ih => exact nowhere k (by omega) (ih (by omega))
  exact absurd (reached 5 le_rfl) (by omega)

section
variable {b : Bank} (rising : strictlyRising b.scheduleSpeeds = true)
include rising

theorem point_speed_lt {i j : Nat} (hij : i < j) (hj : j < 6) : (b.point i).speed < (b.point j).speed := by
  have hj' : j < b.scheduleSpeeds.length := by simpa [Bank.scheduleSpeeds] using hj
  have lt := strictlyRising_getElem_lt rising hij hj'
  rw [scheduleSpeeds_getElem, scheduleSpeeds_getElem] at lt
  exact_mod_cast lt

theorem point_speed_le {i j : Nat} (hij : i ≤ j) (hj : j < 6) : (b.point i).speed ≤ (b.point j).speed := by
  rcases Nat.lt_or_eq_of_le hij with lt | rfl
  · exact (point_speed_lt rising lt hj).le
  · exact le_rfl

/-- From the last point on, a column is its last entry (R35). -/
theorem column_of_ge (f : SchedulePoint → Nat) {v : Nat} (h : (b.point 5).speed ≤ v) :
    b.column f v = f (b.point 5) := by
  have ends := point_speed_lt rising (i := 0) (j := 5) (by omega) (by omega)
  rw [Bank.column, clampInt_of_ge (by omega) (by omega), if_pos rfl]

/-- Within a segment, a column is interpolated between the segment's two points (R35). -/
theorem column_of_segment (f : SchedulePoint → Nat) {v k : Nat} (hk : k < 5)
    (lower : (b.point k).speed ≤ v) (upper : v < (b.point (k + 1)).speed) :
    b.column f v = f (b.point k) +
      rdiv (((f (b.point (k + 1)) : Int) - f (b.point k)) * ((v : Int) - (b.point k).speed))
        ((b.point (k + 1)).speed - (b.point k).speed) := by
  have first := point_speed_le rising (Nat.zero_le k) (by omega)
  have last := point_speed_le rising (i := k + 1) (j := 5) (by omega) (by omega)
  have inside : clampInt (b.point 0).speed (b.point 5).speed v = v :=
    clampInt_of_mem (by omega) (by omega)
  have unique : Machine.segment (fun n => ((b.point n).speed : Int)) v 4 = k := by
    refine segment_eq (by omega) (.inr (by exact_mod_cast lower)) fun j hkj hj => ?_
    have := point_speed_le rising (i := k + 1) (j := j) hkj (by omega)
    omega
  rw [Bank.column, inside, if_neg (by omega), unique]

/-- Up to the first point, a column is its first entry: the speed is clamped to the first point's, where the
first segment is interpolated by nothing (R35). -/
theorem column_of_le (f : SchedulePoint → Nat) {v : Nat} (h : v ≤ (b.point 0).speed) :
    b.column f v = f (b.point 0) := by
  have ends := point_speed_lt rising (i := 0) (j := 5) (by omega) (by omega)
  have next := point_speed_lt rising (i := 0) (j := 1) (by omega) (by omega)
  have clamped : b.column f v = b.column f (b.point 0).speed := by
    rw [Bank.column, Bank.column, clampInt_of_le (by omega) (by omega), clampInt_of_mem le_rfl (by omega)]
  rw [clamped, column_of_segment rising f (by omega) le_rfl next, sub_self, mul_zero,
    rdiv_zero _ (Nat.sub_pos_of_lt next), add_zero]

/-- A column never leaves the range from 0 to a common bound of its entries. -/
theorem column_bounds (f : SchedulePoint → Nat) {hi : Nat} (entries : ∀ k < 6, f (b.point k) ≤ hi) (v : Nat) :
    0 ≤ b.column f v ∧ b.column f v ≤ hi := by
  have inRange (k : Nat) (hk : k < 6) : (0 : Int) ≤ f (b.point k) ∧ (f (b.point k) : Int) ≤ hi :=
    ⟨by omega, by exact_mod_cast entries k hk⟩
  rcases le_or_gt v (b.point 0).speed with low | first
  · rw [column_of_le rising f low]
    exact inRange 0 (by omega)
  rcases le_or_gt (b.point 5).speed v with high | last
  · rw [column_of_ge rising f high]
    exact inRange 5 (by omega)
  obtain ⟨k, hk, lower, upper⟩ := exists_segment first.le last
  rw [column_of_segment rising f hk lower upper]
  exact interpolation_bounds (by omega) (inRange k (by omega)) (inRange (k + 1) (by omega))
    ⟨by omega, by omega⟩

end

/-- The effective authority never leaves 0..1000 (R36), where the schedule's entries do not. -/
theorem effectiveAuthority_bounds {t : Taken} (rising : strictlyRising t.bank.scheduleSpeeds = true)
    (entries : ∀ k < 6, (t.bank.point k).authority ≤ 1000) (v : Nat) :
    0 ≤ effectiveAuthority t v ∧ effectiveAuthority t v ≤ 1000 := by
  have column := column_bounds rising SchedulePoint.authority entries v
  unfold effectiveAuthority
  cases t.mode <;> dsimp only
  case active => split <;> omega
  all_goals omega

/-- Settles O11: the column at the two ends and within a segment, then the cases of the two limits. -/
theorem effectiveAuthority : Obligations.EffectiveAuthority := by
  intro t v rising entries
  dsimp only
  have bounds := effectiveAuthority_bounds rising entries v
  refine ⟨fun f => ⟨column_of_le rising f, column_of_ge rising f, fun k hk => column_of_segment rising f hk⟩,
    ?full, ?none, ?active, ?degraded, bounds.1, bounds.2, ?lost, ?gain, ?capped⟩
  case full => rintro (mode | mode | mode) <;> simp only [Machine.effectiveAuthority, mode]
  case none => rintro (mode | mode | mode) <;> simp only [Machine.effectiveAuthority, mode]
  case active => intro mode degrade; simp [Machine.effectiveAuthority, mode, degrade]
  case degraded => intro mode degrade; simp [Machine.effectiveAuthority, mode, degrade]
  case lost => simp [effectiveGain]
  case gain => intro degrade; simp [effectiveGain, degrade]
  case capped => intro degrade; simp [effectiveGain, degrade]

end Sys2Proof.Proofs

/-! The steer torque (R45) and the current setpoints (R46): the slew moves between two clamped torques, so its
outcome is within their limit, and the conversion of a torque within its limit is bounded in turn. -/

namespace Sys2Proof.Proofs
open Sys2Proof.Machine

/-! The three cases of a slew (R40, R41, R45): within reach, above it and below it. -/

theorem slewed_of_within {tmax slew : Nat} {previous torque : Int}
    (within : (clampSym tmax torque - clampSym tmax previous).natAbs ≤ slew) :
    slewed tmax slew previous torque = clampSym tmax torque :=
  if_pos (by omega)

theorem slewed_of_above {tmax slew : Nat} {previous torque : Int}
    (above : clampSym tmax previous + slew < clampSym tmax torque) :
    slewed tmax slew previous torque = clampSym tmax previous + slew := by
  rw [slewed, if_neg (by omega), if_pos (by omega)]

theorem slewed_of_below {tmax slew : Nat} {previous torque : Int}
    (below : clampSym tmax torque < clampSym tmax previous - slew) :
    slewed tmax slew previous torque = clampSym tmax previous - slew := by
  rw [slewed, if_neg (by omega), if_neg (by omega)]

/-- A slewed torque is within ±tmax: it is the clamped torque, or short of it on the way from the clamped
previous output. -/
theorem slewed_natAbs_le (tmax slew : Nat) (previous torque : Int) :
    (slewed tmax slew previous torque).natAbs ≤ tmax := by
  have start := clampSym_natAbs tmax previous
  have target := clampSym_natAbs tmax torque
  rcases le_or_gt (clampSym tmax torque - clampSym tmax previous).natAbs slew with within | beyond
  · rwa [slewed_of_within within]
  rcases le_or_gt (clampSym tmax torque) (clampSym tmax previous) with down | up
  · rw [slewed_of_below (by omega)]
    omega
  · rw [slewed_of_above (by omega)]
    omega

theorem leanCut_natAbs_le (ls : Nat) (phi torque : Int) : (leanCut ls phi torque).natAbs ≤ torque.natAbs := by
  unfold leanCut
  split
  · exact Nat.zero_le _
  · exact le_rfl

/-! The two torques by mode: 0 where the motor is undriven, else the slewed torque, the tilt one cut. -/

theorem tiltTorque_of_undriven {t : Taken} (undriven : t.mode = .off ∨ t.mode = .held)
    (previous phi auth : Int) : tiltTorque t previous phi auth = 0 := by
  rcases undriven with mode | mode <;> simp only [tiltTorque, mode]

theorem tiltTorque_of_driven {t : Taken} (off : t.mode ≠ .off) (held : t.mode ≠ .held)
    (previous phi auth : Int) :
    tiltTorque t previous phi auth = leanCut t.bank.tuning.ls phi
      (slewed t.bank.tuning.tmaxTilt t.bank.tuning.slewTilt previous auth) := by
  unfold tiltTorque
  split
  · contradiction
  · contradiction
  all_goals rfl

theorem tiltTorque_natAbs_le (t : Taken) (previous phi auth : Int) :
    (tiltTorque t previous phi auth).natAbs ≤ t.bank.tuning.tmaxTilt := by
  by_cases undriven : t.mode = .off ∨ t.mode = .held
  · rw [tiltTorque_of_undriven undriven]
    exact Nat.zero_le _
  · obtain ⟨off, held⟩ := not_or.mp undriven
    rw [tiltTorque_of_driven off held]
    exact (leanCut_natAbs_le _ _ _).trans (slewed_natAbs_le _ _ _ _)

theorem steerTorque_of_undriven {t : Taken} (undriven : t.mode = .off ∨ t.mode = .safe)
    (previous raw : Int) : steerTorque t previous raw = 0 := by
  rcases undriven with mode | mode <;> simp only [steerTorque, mode]

theorem steerTorque_of_driven {t : Taken} (off : t.mode ≠ .off) (safe : t.mode ≠ .safe)
    (previous raw : Int) :
    steerTorque t previous raw =
      slewed t.bank.tuning.tmaxSteer t.bank.tuning.slewSteer previous raw := by
  unfold steerTorque
  split
  · contradiction
  · contradiction
  all_goals rfl

theorem steerTorque_natAbs_le (t : Taken) (previous raw : Int) :
    (steerTorque t previous raw).natAbs ≤ t.bank.tuning.tmaxSteer := by
  by_cases undriven : t.mode = .off ∨ t.mode = .safe
  · rw [steerTorque_of_undriven undriven]
    exact Nat.zero_le _
  · obtain ⟨off, safe⟩ := not_or.mp undriven
    rw [steerTorque_of_driven off safe]
    exact slewed_natAbs_le _ _ _ _

theorem setpoint_zero (kt limit : Nat) : setpoint kt limit 0 = 0 := by
  have quotient : rdiv (0 * 1000) kt = 0 := by
    rcases Nat.eq_zero_or_pos kt with rfl | pos
    · rfl
    · rw [zero_mul, rdiv_zero kt pos]
  rw [setpoint, quotient]
  exact clampInt_of_mem (by omega) (by omega)

/-- With a torque constant of at least 100, a milliampere value is at most ten times its torque limit. -/
theorem rdiv_torque_natAbs_le {kt tmax : Nat} {torque : Int} (constant : 100 ≤ kt)
    (within : torque.natAbs ≤ tmax) : (rdiv (torque * 1000) kt).natAbs ≤ 10 * tmax := by
  have scaled : tmax * 100 ≤ tmax * kt := Nat.mul_le_mul_left tmax constant
  have scaled' : (tmax : Int) * 100 ≤ tmax * kt := by exact_mod_cast scaled
  have bounds := rdiv_bounds (a := torque * 1000) (lo := -(10 * tmax)) (hi := 10 * tmax)
    (b := kt) (by omega) (by linarith [show -(tmax : Int) ≤ torque by omega])
    (by linarith [show torque ≤ tmax by omega])
  omega

/-- Settles O13: the torque of a driven mode is the slewed one, and each setpoint converts a torque that is
within its limit. -/
theorem steerTorqueAndSetpoints : Obligations.SteerTorqueAndSetpoints := by
  intro t x prevTilt prevSteer cycle u r raw start target
  have tilt : r.tTilt.natAbs ≤ u.tmaxTilt := tiltTorque_natAbs_le ..
  have steer : r.tSteer.natAbs ≤ u.tmaxSteer := steerTorque_natAbs_le ..
  refine ⟨rfl, fun undriven => steerTorque_of_undriven undriven _ _, steer, ?slew, rfl, rfl,
    clampSym_natAbs .., clampSym_natAbs .., ?parked, ?tiltRange, ?steerRange⟩
  case slew =>
    intro off safe
    have driven : r.tSteer = slewed u.tmaxSteer u.slewSteer prevSteer raw := steerTorque_of_driven off safe _ _
    rw [driven]
    exact ⟨slewed_of_within, slewed_of_above, slewed_of_below⟩
  case parked =>
    intro undriven
    have noTorque : r.tTilt = 0 := tiltTorque_of_undriven undriven _ _ _
    calc r.iTilt = setpoint u.ktTilt u.iLimitTilt r.tTilt := rfl
      _ = 0 := by rw [noTorque, setpoint_zero]
  case tiltRange =>
    intro constant limit
    have range := rdiv_torque_natAbs_le constant tilt
    omega
  case steerRange =>
    intro constant limit
    have range := rdiv_torque_natAbs_le constant steer
    omega

end Sys2Proof.Proofs

/-! The commit checks (R62, Table 3-5), and COMMIT_TABLES, the swap and DISCARD_TABLES (R63, R65, R66): each
operation whole, case by case, and what it leaves to discard. -/

namespace Sys2Proof.Proofs
open Sys2Proof.Machine

/-! ### The five commit checks -/

/-- What the commit check of a number asks of a bank (Table 3-5); there is no check beyond the fifth. -/
def PassesCheck (b : Bank) (n : Nat) : Prop :=
  match n with
  | 1 => ∀ i : Fin 7, b.speedAxis[i.castSucc] < b.speedAxis[i.succ]
  | 2 => ∀ j : Fin 8, b.steerAxis[j.castSucc] < b.steerAxis[j.succ]
  | 3 => ∀ k : Fin 5, b.schedule[k.castSucc].speed < b.schedule[k.succ].speed
  | 4 => b.tuning.vCap < b.tuning.vRel
  | 5 => b.tuning.supplyLow < b.tuning.supplyHigh
  | _ => True

/-- The answer is the least number that does not pass, or none where every number passes. -/
def NamesFirstFailing (passes : Nat → Prop) (answer : Option Nat) : Prop :=
  match answer with
  | none => ∀ n, passes n
  | some n => ¬ passes n ∧ ∀ m < n, passes m

/-- Only one answer names the first failing number. -/
theorem NamesFirstFailing.eq_iff {passes : Nat → Prop} {answer : Option Nat}
    (names : NamesFirstFailing passes answer) :
    (answer = none ↔ ∀ n, passes n) ∧
      ∀ n, answer = some n ↔ ¬ passes n ∧ ∀ m, m < n → passes m := by
  cases answer with
  | none =>
    have all : ∀ n, passes n := names
    exact ⟨iff_of_true rfl all, fun n => iff_of_false nofun fun first => first.1 (all n)⟩
  | some k =>
    obtain ⟨fails, earlier⟩ := names
    refine ⟨iff_of_false nofun fun all => fails (all k), fun n => ⟨?_, fun ⟨fails', earlier'⟩ => ?_⟩⟩
    · rintro ⟨⟩
      exact ⟨fails, earlier⟩
    · have notLater : n ≤ k := not_lt.mp fun later => fails (earlier' k later)
      have notEarlier : k ≤ n := not_lt.mp fun sooner => fails' (earlier n sooner)
      rw [notLater.antisymm notEarlier]

/-- A table of breakpoints rises where each one is below its neighbour. -/
theorem strictlyRising_toList_iff {n : Nat} (v : Vector Int (n + 1)) :
    strictlyRising v.toList = true ↔ ∀ i : Fin n, v[i.castSucc] < v[i.succ] := by
  rw [strictlyRising_iff_isChain, List.isChain_iff_getElem]
  constructor
  · intro rises i
    simpa using rises i (by simp)
  · intro rises i inside
    simpa using rises ⟨i, by simpa using inside⟩

theorem strictlyRising_scheduleSpeeds_iff (b : Bank) :
    strictlyRising b.scheduleSpeeds = true ↔
      ∀ k : Fin 5, b.schedule[k.castSucc].speed < b.schedule[k.succ].speed := by
  have speeds : b.scheduleSpeeds = (b.schedule.map fun p => (p.speed : Int)).toList :=
    Vector.toList_map.symm
  rw [speeds, strictlyRising_toList_iff]
  simp

/-- One check of a chain: with all smaller numbers passing, the answer is this number where it fails, and is
left to the rest of the chain where it passes too. -/
theorem namesFirstFailing_ite {passes : Nat → Prop} {n : Nat} {fails : Prop} [Decidable fails]
    {rest : Option Nat} (before : ∀ m < n, passes m) (check : fails ↔ ¬ passes n)
    (later : (∀ m < n + 1, passes m) → NamesFirstFailing passes rest) :
    NamesFirstFailing passes (if fails then some n else rest) := by
  split
  case isTrue failed => exact ⟨check.mp failed, before⟩
  case isFalse passed =>
    have here : passes n := not_not.mp (mt check.mpr passed)
    exact later (Nat.forall_lt_succ_right.mpr ⟨before, here⟩)

theorem passesCheck_of_five_lt (b : Bank) {n : Nat} (beyond : 5 < n) : PassesCheck b n := by
  obtain ⟨k, rfl⟩ := Nat.exists_eq_add_of_lt beyond
  rw [show 5 + k + 1 = k + 6 by omega]
  trivial

/-- The bank's checks are made in the order of their numbers, so the number answered is the first to fail. -/
theorem failingCheck_namesFirstFailing (b : Bank) : NamesFirstFailing (PassesCheck b) b.failingCheck := by
  have notRising {l : List Int} {P : Prop} (rising : strictlyRising l = true ↔ P) :
      strictlyRising l = false ↔ ¬ P := Bool.eq_false_iff.trans rising.not
  have noCheck0 : ∀ m < 1, PassesCheck b m := fun m below => by
    obtain rfl : m = 0 := by omega
    trivial
  refine namesFirstFailing_ite noCheck0 (notRising (strictlyRising_toList_iff _)) fun before2 => ?_
  refine namesFirstFailing_ite before2 (notRising (strictlyRising_toList_iff _)) fun before3 => ?_
  refine namesFirstFailing_ite before3 (notRising (strictlyRising_scheduleSpeeds_iff b)) fun before4 => ?_
  refine namesFirstFailing_ite before4 not_lt.symm fun before5 => ?_
  refine namesFirstFailing_ite before5 not_lt.symm fun before6 => ?_
  intro n
  rcases lt_or_ge n 6 with known | beyond
  · exact before6 n known
  · exact passesCheck_of_five_lt b beyond

theorem failingCheck_range {b : Bank} {n : Nat} (failed : b.failingCheck = some n) : 1 ≤ n ∧ n ≤ 5 := by
  obtain ⟨fails, -⟩ := ((failingCheck_namesFirstFailing b).eq_iff.2 n).mp failed
  refine ⟨Nat.pos_of_ne_zero ?_, not_lt.mp fun beyond => fails (passesCheck_of_five_lt b beyond)⟩
  rintro rfl
  exact fails trivial

/-! ### The swap (R63) -/

theorem nextGeneration_ne_zero (g : Word) : nextGeneration g ≠ 0 := by
  unfold nextGeneration
  split
  case isTrue wrapped => decide
  case isFalse below => bv_omega

/-- Staging reads nothing of the tables block, and does not write it. -/
theorem stage_with_tables (b : ReportBody) (s : State) (t : Tables) :
    stage b { s with tables := t } = { s with tables := t, port := (stage b s).port } := by
  unfold stage
  dsimp only
  cases s.port.map.destination b <;> rfl

/-- A swap, whole. -/
theorem swap_eq (s : State) :
    swap s =
      { s with tables := { activeBank := s.tables.pendingBank, pendingBank := s.tables.pendingBank,
                           commitPending := false, generation := nextGeneration s.tables.generation }
               port := (stage (.tablesSwapped (nextGeneration s.tables.generation)) s).port } :=
  stage_with_tables ..

/-- A swap does not read whether a commit is pending. -/
theorem swap_with_commitPending (s : State) (pending : Bool) :
    swap { s with tables := { s.tables with commitPending := pending } } = swap s := rfl

theorem requestSwap_of_pending {s : State} (pending : s.tables.commitPending = true) :
    requestSwap s = swap s := if_pos pending

theorem requestSwap_of_not_pending {s : State} (free : s.tables.commitPending = false) :
    requestSwap s = s := if_neg (by simp [free])

/-! ### COMMIT_TABLES (R62) -/

theorem commitTables_of_pending {s : State} (pending : s.tables.commitPending = true) :
    commitTables s = (s, .plain .pendingCommit 0) := if_pos pending

theorem commitTables_of_failing {s : State} (free : s.tables.commitPending = false) {n : Nat}
    (failed : s.tables.pendingBank.failingCheck = some n) :
    commitTables s = (s, .plain .invalidTables n) := by
  simp [commitTables, free, failed]

/-- An accepted commit swaps at once in OFF and HELD, and is left pending in the other modes (R62, R65). -/
theorem commitTables_of_passing {s : State} (free : s.tables.commitPending = false)
    (passed : s.tables.pendingBank.failingCheck = none) :
    commitTables s =
      if s.seq.mode = .off ∨ s.seq.mode = .held then (swap s, .plain .accepted 1)
      else ({ s with tables := { s.tables with commitPending := true } }, .plain .accepted 0) := by
  simp [commitTables, free, passed, swap_with_commitPending]

/-! ### DISCARD_TABLES (R66) -/

/-- The state with the pending bank copied from the active bank and no commit pending. -/
def discarded (s : State) : State :=
  { s with tables := { s.tables with pendingBank := s.tables.activeBank, commitPending := false } }

/-- There is nothing to discard: no commit is pending and the banks are equal. -/
def NothingToDiscard (s : State) : Prop :=
  s.tables.commitPending = false ∧ s.tables.pendingBank = s.tables.activeBank

theorem discardTables_of_pending {s : State} (pending : s.tables.commitPending = true) :
    discardTables s = (discarded s, .plain .accepted 1) := if_pos pending

theorem discardTables_of_changed {s : State} (free : s.tables.commitPending = false)
    (changed : s.tables.pendingBank ≠ s.tables.activeBank) :
    discardTables s = (discarded s, .plain .accepted 0) := by
  simp [discardTables, discarded, free, changed]

theorem discardTables_of_nothing {s : State} (nothing : NothingToDiscard s) :
    discardTables s = (s, .plain .noPending 0) := by
  obtain ⟨free, same⟩ := nothing
  simp [discardTables, free, same]

/-- Whatever stood before it, a DISCARD_TABLES leaves nothing to discard. -/
theorem nothingToDiscard_discardTables (s : State) : NothingToDiscard (discardTables s).1 := by
  by_cases nothing : NothingToDiscard s
  case pos => rwa [discardTables_of_nothing nothing]
  case neg =>
    have copied : (discardTables s).1 = discarded s := by
      cases pending : s.tables.commitPending
      case true => rw [discardTables_of_pending pending]
      case false => rw [discardTables_of_changed pending fun same => nothing ⟨pending, same⟩]
    rw [copied]
    exact ⟨rfl, rfl⟩

/-- A swap leaves nothing to discard: it leaves the two banks equal. -/
theorem nothingToDiscard_swap (s : State) : NothingToDiscard (swap s) := by
  rw [swap_eq]
  exact ⟨rfl, rfl⟩

/-- Settles O28: the first failing check, the cases of COMMIT_TABLES and of the swap request, and those of
DISCARD_TABLES, which finds nothing after itself and after a swap. -/
theorem commitSwapAndDiscard : Obligations.CommitSwapAndDiscard := by
  refine ⟨fun b => (failingCheck_namesFirstFailing b).eq_iff, fun tag s => ?_⟩
  simp only [deliver, answered]
  refine ⟨?commitAgain, ?commitFailing, ?commitPassing, ?swapRequested, requestSwap_of_not_pending,
    ?discardPending, ?discardChanged, ?discardNothing, ?discardAgain, ?requestAfterDiscard, ?discardAfterSwap⟩
  case commitAgain => intro pending; rw [commitTables_of_pending pending]
  case commitFailing =>
    intro n free failed
    rw [commitTables_of_failing free failed]
    exact ⟨rfl, failingCheck_range failed⟩
  case commitPassing =>
    intro free passed
    rw [commitTables_of_passing free passed]
    refine ⟨fun atOnce => ?_, fun off held => ?_⟩
    · rw [if_pos atOnce, swap_eq]
      exact ⟨rfl, nextGeneration_ne_zero _⟩
    · rw [if_neg (not_or.mpr ⟨off, held⟩)]
  case swapRequested => intro pending; rw [requestSwap_of_pending pending]; exact swap_eq s
  case discardPending => intro pending; rw [discardTables_of_pending pending]; rfl
  case discardChanged => intro free changed; rw [discardTables_of_changed free changed]; rfl
  case discardNothing => intro free same; rw [discardTables_of_nothing ⟨free, same⟩]
  case discardAgain => rw [discardTables_of_nothing (nothingToDiscard_discardTables s)]
  case requestAfterDiscard => exact requestSwap_of_not_pending (nothingToDiscard_discardTables s).1
  case discardAfterSwap =>
    intro pending
    rw [requestSwap_of_pending pending, discardTables_of_nothing (nothingToDiscard_swap s)]

end Sys2Proof.Proofs

/-! The sample runs (R125, R126, R127): one spec of `ThresholdRun.sample`, that the run it leaves is the counted
one, and the crossing read off the two raised flags, which carries over to the three conditions. -/

namespace Sys2Proof.Proofs
open Sys2Proof.Machine

/-- What a sample leaves of a run: beyond the limit it counts toward the condition, back by the margin toward its
end, the tenth crosses, and any other sample breaks the run. -/
def Counted (r r' : ThresholdRun) (beyond back : Prop) : Prop :=
  (r.raised = false → beyond → r.run < 9 → r' = { raised := false, run := r.run + 1 }) ∧
  (r.raised = false → beyond → 9 ≤ r.run → r' = { raised := true, run := 0 }) ∧
  (r.raised = false → ¬ beyond → r' = { raised := false, run := 0 }) ∧
  (r.raised = true → back → r.run < 9 → r' = { raised := true, run := r.run + 1 }) ∧
  (r.raised = true → back → 9 ≤ r.run → r' = { raised := false, run := 0 }) ∧
  (r.raised = true → ¬ back → r' = { raised := true, run := 0 })

/-- A sample of a condition that is not raised. -/
theorem sample_of_not_raised {r : ThresholdRun} (down : r.raised = false) (beyond back : Bool) :
    r.sample beyond back =
      if beyond then
        if r.run < 9 then ({ raised := false, run := r.run + 1 }, .stays)
        else ({ raised := true, run := 0 }, .sets)
      else ({ raised := false, run := 0 }, .stays) := by
  have room : r.run + 1 < 10 ↔ r.run < 9 := Nat.succ_lt_succ_iff
  simp only [ThresholdRun.sample, down, Bool.false_eq_true, if_false, room]

/-- A sample of a raised condition. -/
theorem sample_of_raised {r : ThresholdRun} (up : r.raised = true) (beyond back : Bool) :
    r.sample beyond back =
      if back then
        if r.run < 9 then ({ raised := true, run := r.run + 1 }, .stays)
        else ({ raised := false, run := 0 }, .clears)
      else ({ raised := true, run := 0 }, .stays) := by
  have room : r.run + 1 < 10 ↔ r.run < 9 := Nat.succ_lt_succ_iff
  simp only [ThresholdRun.sample, up, if_true, room]

theorem sample_counted (r : ThresholdRun) (beyond back : Prop) [Decidable beyond] [Decidable back] :
    Counted r (r.sample (decide beyond) (decide back)).1 beyond back := by
  refine ⟨?counts, ?sets, ?breaks, ?backs, ?clears, ?stands⟩
  case counts => intro down far below; simp [sample_of_not_raised down, far, below]
  case sets => intro down far full; simp [sample_of_not_raised down, far, full.not_gt]
  case breaks => intro down near; simp [sample_of_not_raised down, near]
  case backs => intro up far below; simp [sample_of_raised up, far, below]
  case clears => intro up far full; simp [sample_of_raised up, far, full.not_gt]
  case stands => intro up near; simp [sample_of_raised up, near]

/-- The crossing is the change of the raised flag. -/
theorem sample_crossing (r : ThresholdRun) (beyond back : Bool) :
    (r.sample beyond back).2 =
      if r.raised = false ∧ (r.sample beyond back).1.raised = true then .sets
      else if r.raised = true ∧ (r.sample beyond back).1.raised = false then .clears
      else .stays := by
  cases flag : r.raised
  case false => rw [sample_of_not_raised flag]; split_ifs <;> simp_all
  case true => rw [sample_of_raised flag]; split_ifs <;> simp_all

/-- What a sample does to a kind: raised where the flag is set, ended where it is cleared. -/
def told (k : FaultKind) (n : Nat) (r r' : ThresholdRun) (v : State) : State :=
  if r.raised = false ∧ r'.raised = true then raise k n v
  else if r.raised = true ∧ r'.raised = false then endFault k v
  else v

theorem applyCrossing_sample (k : FaultKind) (r : ThresholdRun) (beyond back : Bool) (v : State) :
    applyCrossing k (r.sample beyond back).2 v = told k 0 r (r.sample beyond back).1 v := by
  rw [sample_crossing, told, apply_ite (applyCrossing k · v), apply_ite (applyCrossing k · v)]
  rfl

/-- A bridge's sample tells of BRIDGE_HOT only while the other bridge is not hot. -/
theorem sampleHot_eq (b : Bridge) (x : Int) (s : State) :
    let r' := ((s.conv.hot b).sample (decide ((s.tuning.hotLimit : Int) < x))
      (decide (x < (s.tuning.hotLimit : Int) - 100))).1
    let v : State := { s with conv := s.conv.setHot b r' }
    sampleHot b x s =
      if (s.conv.hot b.other).raised then v else told .bridgeHot b.code (s.conv.hot b) r' v := by
  dsimp only
  rw [sampleHot]
  cases (s.conv.hot b.other).raised
  case true =>
    rw [if_pos rfl]
    generalize (ThresholdRun.sample _ _ _).2 = crossing
    cases crossing <;> rfl
  case false =>
    rw [if_neg Bool.false_ne_true, told, sample_crossing]
    split_ifs <;> rfl

/-- Settles O45: each sample leaves the counted run, and tells its kind of the crossing; the defaults are Table 9-1's. -/
theorem thresholdRuns : Obligations.ThresholdRuns := by
  intro x s
  refine ⟨⟨_, sample_counted s.conv.low _ _, applyCrossing_sample ..⟩,
    ⟨_, sample_counted s.conv.high _ _, applyCrossing_sample ..⟩,
    fun b => ⟨_, sample_counted (s.conv.hot b) _ _, sampleHot_eq b x s⟩,
    fun k watched => ?defaults⟩
  case defaults => rcases watched with rfl | rfl | rfl <;> exact ⟨rfl, rfl⟩

end Sys2Proof.Proofs

/-! SET_FAULT_POLICY (R155): the whole of it is one record put into the fault table, so each clause reads off
`FaultRecord.withPolicy`, whose fields the next raise and the clear of a LATCHED kind take up. -/

namespace Sys2Proof.Proofs
open Sys2Proof.Machine

/-! ### Codes and floors (Table 9-1) -/

theorem map_idx_all : FaultKind.all.map FaultKind.idx = List.finRange 20 := by decide

theorem ofCode_eq_none_iff (n : Nat) : FaultKind.ofCode n = none ↔ n = 0 ∨ 20 < n := by
  cases n with
  | zero => simp [FaultKind.ofCode]
  | succ m => simp [FaultKind.ofCode, FaultKind.all]

/-- The table lists the kinds in code order, so the kind a code names has that code. -/
theorem code_eq_of_ofCode {n : Nat} {k : FaultKind} (named : FaultKind.ofCode n = some k) : k.code = n := by
  cases n with
  | zero => cases named
  | succ m =>
    have place : (FaultKind.all.map FaultKind.idx)[m]? = some k.idx := by
      rw [List.getElem?_map, show FaultKind.all[m]? = some k from named, Option.map_some]
    rw [map_idx_all] at place
    obtain ⟨_, atPlace⟩ := List.getElem?_eq_some_iff.mp place
    simp [FaultKind.code, ← atPlace]

theorem floor_eq (k : FaultKind) :
    k.floor = if k.code ∈ [2, 4, 9, 11, 12, 13, 14] then .safe else .report := by
  cases k <;> rfl

/-- The table after a reset (Table 9-3): the default of a SAFE floor is SAFE, and of the others four have REPORT. -/
theorem cleared_get (kept : Retained) (k : FaultKind) :
    (FaultMonitor.cleared kept).get k = .cleared (if k.floor = .safe then .safe
      else if k = .steerFallback ∨ k = .wheelDegraded ∨ k = .lockReleaseTimeout ∨ k = .directiveOverrun then
        .report
      else .degrade) := by
  cases k <;> rfl

/-! ### The two clamps of the reaction -/

/-- A reaction code above 2 is taken as SAFE. -/
theorem code_reactionOfCode (n : Nat) : (Reaction.ofCode n).code = if 2 < n then 2 else n := by
  match n with
  | 0 | 1 | 2 => rfl
  | m + 3 => simp [Reaction.ofCode, Reaction.code]

theorem code_atLeast (floor r : Reaction) : (floor.atLeast r).code = max floor.code r.code := by
  unfold Reaction.atLeast
  split <;> omega

/-- A code above 2 is clamped already, so whether either clamp acts can be told from the code as sent. -/
theorem clamps_iff (n floor : Nat) :
    (2 < n ∨ (Reaction.ofCode n).code < floor) ↔ (2 < n ∨ n < floor) := by
  rw [code_reactionOfCode]
  split <;> omega

/-! ### The record a policy write leaves -/

section Record
variable (r : FaultRecord) (reaction : Reaction) (timeout : Nat)

theorem withPolicy_eq :
    r.withPolicy reaction timeout =
      if r.state = .clear then
        { r with policyReaction := reaction, policyTimeout := timeout, reaction := reaction, timeout := timeout }
      else { r with policyReaction := reaction, policyTimeout := timeout } := by
  unfold FaultRecord.withPolicy
  cases r.state <;> rfl

@[simp] theorem withPolicy_state : (r.withPolicy reaction timeout).state = r.state := by
  rw [withPolicy_eq]; split <;> rfl

@[simp] theorem withPolicy_policyReaction : (r.withPolicy reaction timeout).policyReaction = reaction := by
  rw [withPolicy_eq]; split <;> rfl

@[simp] theorem withPolicy_policyTimeout : (r.withPolicy reaction timeout).policyTimeout = timeout := by
  rw [withPolicy_eq]; split <;> rfl

end Record

/-! ### The policy comes into force -/

/-- A raise puts the policy into force (R147). -/
theorem raise_takes_policy (k : FaultKind) (n : Nat) (s : State) :
    ((raise k n s).faults.get k).reaction = (s.faults.get k).policyReaction ∧
      ((raise k n s).faults.get k).timeout = (s.faults.get k).policyTimeout := by
  rw [raise_get_same, raised_startAck]
  exact ⟨rfl, rfl⟩

/-- CLEAR_FAULT of a LATCHED kind leaves the cleared record, with the policy in force (R154). -/
theorem clearFault_get_of_latched {body : List Byte} {k : FaultKind} {s : State}
    (named : FaultKind.ofCode (byteAt body 0) = some k) (latched : (s.faults.get k).state = .latched) :
    (clearFault body s).1.faults.get k = (s.faults.get k).clearedByHost := by
  simp only [clearFault, named, latched, clearKind_faults, get_put_same]

/-! ### SET_FAULT_POLICY -/

theorem setFaultPolicy_of_unnamed {body : List Byte} (s : State)
    (unnamed : FaultKind.ofCode (byteAt body 0) = none) :
    setFaultPolicy body s = (s, .plain .badLength 0) := by
  simp only [setFaultPolicy, unnamed]

/-- SET_FAULT_POLICY of a kind, whole. -/
theorem setFaultPolicy_of_named {body : List Byte} {k : FaultKind} (s : State)
    (named : FaultKind.ofCode (byteAt body 0) = some k) :
    setFaultPolicy body s =
      (putFault k ((s.faults.get k).withPolicy ((Reaction.ofCode (byteAt body 1)).atLeast k.floor)
        (byteAt body 2)) s,
       if 2 < byteAt body 1 ∨ byteAt body 1 < k.floor.code then .plain .acceptedClamped 1
       else .plain .accepted 0) := by
  simp only [setFaultPolicy, named, clamps_iff]
  split <;> rfl

/-- Settles O27: each clause is read off the one record that `setFaultPolicy_of_named` puts into the table. -/
theorem setFaultPolicy : Obligations.SetFaultPolicy := by
  intro b r n tag s
  simp only [deliver, answered]
  refine ⟨?refused, fun unnamed => ?refusal, fun k named => ?taken⟩
  case refused => rw [ofCode_eq_none_iff, ← BitVec.toNat_inj (y := 0)]; rfl
  case refusal => rw [setFaultPolicy_of_unnamed (body := [b, r, n]) s unnamed]
  case taken =>
    rw [setFaultPolicy_of_named (body := [b, r, n]) s named]
    generalize written : (Reaction.ofCode (byteAt [b, r, n] 1)).atLeast k.floor = reaction
    generalize put : putFault k ((s.faults.get k).withPolicy reaction (byteAt [b, r, n] 2)) s = t
    have record : t.faults.get k = (s.faults.get k).withPolicy reaction n.toNat := by
      rw [← put]; exact get_put_same ..
    have policy : (t.faults.get k).policyReaction = reaction := by rw [record, withPolicy_policyReaction]
    have timeout : (t.faults.get k).policyTimeout = n.toNat := by rw [record, withPolicy_policyTimeout]
    dsimp only
    rw [policy]
    refine ⟨code_eq_of_ofCode named, floor_eq k, ?clamped, ?whenClear, ?otherwise, ?nextRaise, ?nextClear,
      ?others, ?frame, rfl, ?resetTimeout, ?resetReaction⟩
    case clamped => rw [← written, code_atLeast, code_reactionOfCode]; rfl
    case whenClear => intro clear; rw [record, withPolicy_eq, if_pos clear]
    case otherwise => intro standing; rw [record, withPolicy_eq, if_neg standing]
    case nextRaise => intro m; rw [← policy, ← timeout]; exact raise_takes_policy k m t
    case nextClear =>
      intro latched
      rw [clearFault_get_of_latched (body := [b]) named (by rw [record, withPolicy_state, latched])]
      exact ⟨rfl, policy, timeout⟩
    case others => intro j other; rw [← put]; exact get_put_ne _ _ other
    case frame => rw [← put]; rfl
    case resetTimeout => rw [cleared_get]; rfl
    case resetReaction => rw [cleared_get]; rfl

end Sys2Proof.Proofs

/-! The release counts (R173): whichever count a release takes, it lies within the published frames, and that
alone keeps the ring safe; a ring with nothing queued publishes nothing. -/

namespace Sys2Proof.Proofs
open Sys2Proof.Machine

/-! ### One ring -/

theorem release_of_within {host : Word} {r : Ring}
    (within : (host - r.released).toNat ≤ (r.publish - r.released).toNat) :
    r.release host =
      { r with released := host, footprints := r.footprints.drop (host - r.released).toNat } := by
  simp only [Ring.release, if_pos within]

/-- A host count beyond the published frames stands for the publish count. -/
theorem release_of_beyond {host : Word} {r : Ring}
    (beyond : (r.publish - r.released).toNat < (host - r.released).toNat) :
    r.release host = r.release r.publish := by
  rw [release_of_within le_rfl]
  simp only [Ring.release, if_neg beyond.not_ge]

theorem release_frame (host : Word) (r : Ring) :
    r.release host =
      { r with released := (r.release host).released, footprints := (r.release host).footprints } := rfl

/-- Counted modulo 65536, the frames left are the published ones less the released ones. -/
theorem published_after_release {publish released host : Word}
    (within : (host - released).toNat ≤ (publish - released).toNat) :
    (publish - host).toNat = (publish - released).toNat - (host - released).toNat := by
  rw [← sub_sub_sub_cancel_right publish host released, BitVec.toNat_sub_of_le within]

section
variable {id : RingId} {r : Ring} (safe : RingSafe id r)
include safe

theorem release_safe_of_within {host : Word}
    (within : (host - r.released).toNat ≤ (r.publish - r.released).toNat) :
    RingSafe id (r.release host) := by
  rw [release_of_within within]
  have freed := List.drop_sublist (host - r.released).toNat r.footprints
  exact {
    frames := by rw [published_after_release within, safe.frames, List.length_drop]
    atMost := freed.length_le.trans safe.atMost
    bytes := (freed.sum_le_sum fun _ _ => Nat.zero_le _).trans safe.bytes
    even := safe.even
    inArea := safe.inArea
    room := safe.room }

theorem release_safe (host : Word) : RingSafe id (r.release host) := by
  obtain within | beyond := le_or_gt (host - r.released).toNat (r.publish - r.released).toNat
  · exact release_safe_of_within safe within
  · rw [release_of_beyond beyond]
    exact release_safe_of_within safe le_rfl

/-- The footprints of a safe ring are those of its published frames, so releasing all of them leaves none. -/
theorem release_publish_footprints : (r.release r.publish).footprints = [] := by
  rw [release_of_within le_rfl, safe.frames]
  exact List.drop_length

end

/-! ### Steps 3 and 4 of a window -/

theorem publish_of_empty {n : Nat} {id : RingId} {p : Port} (empty : (p.ring id).queue = []) :
    publish n id p = p := by
  cases n with
  | zero => rfl
  | succ n => simp only [publish, empty]

theorem serveRings_of_empty {p : Port} (event : p.event.queue = []) (trace : p.trace.queue = [])
    (host other : Word) :
    p.serveRings host other = { p with event := p.event.release host, trace := p.trace.release other } := by
  calc p.serveRings host other
    _ = publish 4 .trace { p with event := p.event.release host, trace := p.trace.release other } :=
      congrArg (publish 4 .trace) (publish_of_empty event)
    _ = { p with event := p.event.release host, trace := p.trace.release other } :=
      publish_of_empty trace

/-- Settles O58: the two cases of R173 are those of `release_of_within` and `release_of_beyond`. -/
theorem releaseCountTake : Obligations.ReleaseCountTake := by
  intro id host r safe
  refine ⟨fun within => ?taken, fun beyond => ?all, release_frame host r, release_safe safe host,
    fun p other event trace => serveRings_of_empty event trace host other⟩
  case taken => rw [release_of_within within]; exact ⟨rfl, rfl⟩
  case all =>
    rw [release_of_beyond beyond]
    exact ⟨by rw [release_of_within le_rfl], release_publish_footprints safe⟩

end Sys2Proof.Proofs

/-! What every step is made of. The invariants of Safety.lean look at six parts of the state only; `KeptCore` lists
the few updates of those parts from which the part's operations are built, and what each is built from is said once,
here. A property that every one of these updates keeps is then kept by every operation, and by every step. -/

namespace Sys2Proof.Proofs
open Sys2Proof.Machine

/-! ### The updates -/

/-- The sequencer's own share of `LockSafe`: all of it but the solenoid stage. -/
structure LockFits (q : Sequencer) : Prop where
  dropped : q.mode.lockDropped = true → q.solenoid = false
  pulled : q.mode.lockPulled = true → q.solenoid = true
  latch : q.mode = .safe → q.solenoid = q.latchHolding
  seated : q.mode = .held → q.lockDrive = .engaged

/-- The modes in which no commit stays pending (R65). -/
def Resting (m : Mode) : Prop := m = .off ∨ m = .held

/-- What the current loop and the trip may make of a channel: its wanted state stays, and only an ON channel
trips. -/
structure ChannelMoves (c c' : Channel) : Prop where
  wanted : c'.wanted = c.wanted
  tripped : c'.state = .tripped → c.state = .on ∨ c.state = .tripped
  safe : ChannelSafe c → ChannelSafe c'

/-- What a write may make of a kind's record: not below the floor, no momentary kind ACTIVE, and CLEAR only where it
was CLEAR; a clear is an update of its own. -/
structure RecordFits (k : FaultKind) (r r' : FaultRecord) : Prop where
  floor : k.floor.code ≤ r.policyReaction.code → k.floor.code ≤ r.reaction.code →
    k.floor.code ≤ r'.policyReaction.code ∧ k.floor.code ≤ r'.reaction.code
  momentary : k.momentary = true → r.state ≠ .active → r'.state ≠ .active
  clear : r'.state = .clear → r.state = .clear

/-- The parts the invariants look at, as every reset leaves them. -/
structure AtReset (t : State) : Prop where
  seq : ∃ lke lkr lrq : Contact, lke.level = false ∧ lkr.level = false ∧
    t.seq = { Sequencer.cleared false false false with lke := lke, lkr := lkr, lrq := lrq }
  tables : t.tables = .cleared
  drive : ∃ period, t.drive = { Drive.cleared with period := period }
  faults : ∃ kept, t.faults = .cleared kept
  event : t.port.event = .cleared
  trace : t.port.trace = .cleared

/-- A property that each update of the parts keeps. `other` is every update outside the parts; `modeSwap` is a mode
change with the swap request after it, between which a commit may be pending in HELD or OFF. -/
structure KeptCore (P : State → Prop) : Prop where
  other : ∀ {s t : State}, P s → t.seq = s.seq → t.tables = s.tables → t.drive = s.drive → t.faults = s.faults →
    t.port = s.port → P t
  port : ∀ {s : State} {p : Port}, P s → (MemorySafe s.port → MemorySafe p) → (RingsSafe s.port → RingsSafe p) →
    P (setPort p s)
  seq : ∀ {s : State} {q : Sequencer}, P s → q.mode = s.seq.mode → (LockFits s.seq → LockFits q) →
    P { s with seq := q, drive := s.drive.command s.seq.solenoid q.solenoid }
  mode : ∀ {s : State} (c : ModeCause) {q : Sequencer}, P s → LockFits q → (Resting q.mode → Resting s.seq.mode) →
    P (s.modeChanged c q q.mode.tiltWanted q.mode.steerWanted)
  modeSwap : ∀ {s : State} (c : ModeCause) {q : Sequencer}, P s → LockFits q →
    P (requestSwap (s.modeChanged c q q.mode.tiltWanted q.mode.steerWanted))
  faults : ∀ {s : State} {m : FaultMonitor}, P s → (FaultsSafe s.faults → FaultsSafe m) →
    (∀ k, (m.get k).state = .clear → (s.faults.get k).state = .clear) → P { s with faults := m }
  clear : ∀ {s : State} (k : FaultKind), P s → P (clearKind k s)
  drive : ∀ {s : State} {d : Drive}, P s → (d.stage = .off ↔ s.drive.stage = .off) →
    ChannelMoves s.drive.tilt d.tilt → ChannelMoves s.drive.steer d.steer → P { s with drive := d }
  tables : ∀ {s : State} {x : Tables}, P s → (TablesSafe s → TablesSafe { s with tables := x }) →
    P { s with tables := x }
  reset : ∀ {s t : State}, P s → AtReset t → (MemorySafe s.port → MemorySafe t.port) → P t

/-- A property that is kept in the one place where the sequencer's share of `LockSafe` fails between two updates
too: the pin leaves its seat in HELD, which raises a kind whose floor is SAFE (R6, R13). -/
structure Kept (P : State → Prop) : Prop extends KeptCore P where
  unseated : ∀ {s : State} {q : Sequencer} (k : FaultKind), P s → k.floor = .safe → s.seq.mode = .held →
    q.mode = .held → q.solenoid = s.seq.solenoid → P (raise k 0 { s with seq := q })

/-! ### What the updates of the blocks are -/

theorem command_self (d : Drive) (on : Bool) : d.command on on = d := by
  cases on <;> rfl

theorem ChannelMoves.refl (c : Channel) : ChannelMoves c c := ⟨rfl, .inr, id⟩

theorem RecordFits.of_state {k : FaultKind} {r r' : FaultRecord} (state : r'.state = r.state)
    (policy : r'.policyReaction = r.policyReaction) (reaction : r'.reaction = r.reaction) : RecordFits k r r' where
  floor h₁ h₂ := by rw [policy, reaction]; exact ⟨h₁, h₂⟩
  momentary _ h := by rwa [state]
  clear h := by rwa [state] at h

/-- A raise takes the policy's reaction and makes a momentary kind LATCHED (R147, R148). -/
theorem RecordFits.raised (k : FaultKind) (n : Nat) (r : FaultRecord) : RecordFits k r (r.raised k.momentary n) where
  floor h _ := ⟨h, h⟩
  momentary lasting _ := by simp [FaultRecord.raised, lasting]
  clear h := by cases m : k.momentary <;> simp [FaultRecord.raised, m] at h

theorem RecordFits.startAck (k : FaultKind) (r : FaultRecord) : RecordFits k r r.startAck := by
  unfold FaultRecord.startAck
  split <;> exact .of_state rfl rfl rfl

/-- An end makes an ACTIVE kind LATCHED (R149). -/
theorem RecordFits.latched {k : FaultKind} (r : FaultRecord) : RecordFits k r { r with state := .latched } where
  floor h₁ h₂ := ⟨h₁, h₂⟩
  momentary _ _ := nofun
  clear h := nomatch h

theorem faultsSafe_put {m : FaultMonitor} {k : FaultKind} {r : FaultRecord} (fits : RecordFits k (m.get k) r)
    (safe : FaultsSafe m) : FaultsSafe (m.put k r) := by
  have record : ∀ j, (m.put k r).get j = if j = k then r else m.get j := by
    intro j
    by_cases h : j = k
    · rw [h, get_put_same, if_pos rfl]
    · rw [get_put_ne _ _ h, if_neg h]
  have floor := fits.floor (safe.policy k) (safe.reaction k)
  refine ⟨fun j => ?policy, fun j => ?reaction, fun j lasting => ?momentary⟩ <;> rw [record] <;> split
  case policy.isTrue h => rw [h]; exact floor.1
  case policy.isFalse => exact safe.policy j
  case reaction.isTrue h => rw [h]; exact floor.2
  case reaction.isFalse => exact safe.reaction j
  case momentary.isTrue h => rw [h] at lasting; exact fits.momentary lasting (safe.momentary k lasting)
  case momentary.isFalse => exact safe.momentary j lasting

theorem offerReport_safe (id : RingId) {r : Ring} (cycle : Word) (b : ReportBody) (safe : RingSafe id r) :
    RingSafe id (r.offerReport id.room cycle b) := by
  obtain ⟨frames, atMost, bytes, even, inArea, room⟩ := safe
  unfold Ring.offerReport
  split
  · exact ⟨frames, atMost, bytes, even, inArea, by simp only [List.length_append, List.length_singleton]; omega⟩
  · exact ⟨frames, atMost, bytes, even, inArea, room⟩

/-- Staging is an update of the port that keeps the memory and safe rings. -/
theorem stage_port (b : ReportBody) (s : State) :
    ∃ p, stage b s = setPort p s ∧ p.mem = s.port.mem ∧ (RingsSafe s.port → RingsSafe p) := by
  unfold stage
  cases s.port.map.destination b with
  | event => exact ⟨_, rfl, rfl, fun safe => ⟨offerReport_safe .event _ b safe.event, safe.trace⟩⟩
  | trace => exact ⟨_, rfl, rfl, fun safe => ⟨safe.event, offerReport_safe .trace _ b safe.trace⟩⟩
  | discard => exact ⟨s.port, rfl, rfl, id⟩

/-! ### The operations -/

namespace KeptCore

section
variable {P : State → Prop} (K : KeptCore P) {s : State}
include K

/-! #### The port's, the sequencer's and the fault table's records -/

theorem portSame {p : Port} (h : P s) (mem : p.mem = s.port.mem) (event : p.event = s.port.event)
    (trace : p.trace = s.port.trace) : P (setPort p s) := by
  refine K.port h (fun safe => ?_) fun safe => ⟨event ▸ safe.event, trace ▸ safe.trace⟩
  rw [MemorySafe, mem]
  exact safe

theorem stage (b : ReportBody) (h : P s) : P (Machine.stage b s) := by
  obtain ⟨p, staged, mem, rings⟩ := stage_port b s
  rw [staged]
  exact K.port h (fun safe => by rw [MemorySafe, mem]; exact safe) rings

theorem setCause (c : Cause) (h : P s) : P (Machine.setCause c s) := K.portSame h rfl rfl rfl

theorem setSeq {q : Sequencer} (h : P s) (mode : q.mode = s.seq.mode) (solenoid : q.solenoid = s.seq.solenoid)
    (fits : LockFits s.seq → LockFits q) : P { s with seq := q } := by
  have kept := K.seq h mode fits
  rwa [solenoid, command_self] at kept

/-- A field of the sequencer that `LockFits` does not look at. -/
theorem setSeqQuiet {q : Sequencer} (h : P s)
    (same : q.mode = s.seq.mode ∧ q.solenoid = s.seq.solenoid ∧ q.latchHolding = s.seq.latchHolding ∧
      q.lockDrive = s.seq.lockDrive) : P { s with seq := q } := by
  obtain ⟨mode, solenoid, latch, drive⟩ := same
  refine K.setSeq h mode solenoid fun fits => ?_
  constructor
  · rw [mode, solenoid]; exact fits.dropped
  · rw [mode, solenoid]; exact fits.pulled
  · rw [mode, solenoid, latch]; exact fits.latch
  · rw [mode, drive]; exact fits.seated

theorem putFault {k : FaultKind} {r : FaultRecord} (h : P s) (fits : RecordFits k (s.faults.get k) r) :
    P (Machine.putFault k r s) := by
  refine K.faults h (faultsSafe_put fits) fun j clear => ?_
  by_cases same : j = k
  · subst same
    exact fits.clear (by rwa [get_put_same] at clear)
  · rwa [get_put_ne _ _ same] at clear

theorem stageFault (k : FaultKind) (r : FaultRecord) (h : P s) : P (Machine.stageFault k r s) := K.stage _ h

theorem writeRetained (k : FaultKind) (n : Nat) (m : Mode) (h : P s) : P (Machine.writeRetained k n m s) :=
  K.faults h (fun safe => ⟨safe.policy, safe.reaction, safe.momentary⟩) fun _ clear => clear

theorem minTimer (t : Timer) (h : P s) : P { s with faults := { s.faults with minTimer := t } } :=
  K.faults h (fun safe => ⟨safe.policy, safe.reaction, safe.momentary⟩) fun _ clear => clear

/-! #### Swaps and mode changes -/

theorem swap (h : P s) (checked : TablesSafe s → s.tables.pendingBank.failingCheck = none) : P (Machine.swap s) :=
  K.stage _ (K.tables h fun safe => ⟨checked safe, nofun, nofun⟩)

theorem requestSwap (h : P s) : P (Machine.requestSwap s) := by
  unfold Machine.requestSwap
  split
  case isTrue pending => exact K.swap h fun safe => safe.checked pending
  case isFalse => exact h

theorem enterHeld (c : ModeCause) (h : P s) (seated : s.seq.lockDrive = .engaged) : P (Machine.enterHeld c s) := by
  rw [enterHeld_eq]
  exact K.modeSwap c h ⟨fun _ => rfl, nofun, nofun, fun _ => seated⟩

theorem enterOff_of_held (c : ModeCause) (h : P s) (held : s.seq.mode = .held) : P (Machine.enterOff c s) := by
  rw [enterOff_eq]
  exact K.mode c h ⟨fun _ => rfl, nofun, nofun, nofun⟩ fun _ => .inr held

theorem enterOff_requestSwap (c : ModeCause) (h : P s) : P (Machine.requestSwap (Machine.enterOff c s)) := by
  rw [enterOff_eq]
  exact K.modeSwap c h ⟨fun _ => rfl, nofun, nofun, nofun⟩

theorem enterReleasing (c : ModeCause) (h : P s) : P (enterMode .releasing c s) := by
  rw [enterReleasing_eq]
  exact K.mode c h ⟨nofun, fun _ => rfl, nofun, nofun⟩ nofun

theorem enterCapturing (c : ModeCause) (h : P s) : P (Machine.enterCapturing c s) := by
  rw [enterCapturing_eq]
  exact K.mode c h ⟨nofun, fun _ => rfl, nofun, nofun⟩ nofun

theorem enterMode_active (c : ModeCause) (h : P s) : P (enterMode .active c s) := by
  rw [enterMode, changeMode_eq]
  exact K.mode c h ⟨nofun, fun _ => rfl, nofun, nofun⟩ nofun

theorem enterActive (c : ModeCause) (h : P s) : P (Machine.enterActive c s) := by
  rw [enterActive_eq]
  exact K.mode c h ⟨nofun, fun _ => rfl, nofun, nofun⟩ nofun

theorem enterEngaging (c : ModeCause) (h : P s) : P (Machine.enterEngaging c s) := by
  have engaging : P (enterMode .engaging c s) := by
    rw [enterMode, changeMode_eq]
    exact K.mode c h ⟨fun _ => rfl, nofun, nofun, nofun⟩ nofun
  unfold Machine.enterEngaging
  dsimp only
  split
  case h_1 seated => exact K.enterHeld _ engaging seated
  all_goals exact engaging

/-! #### The fault monitor -/

theorem enterSafe (k : FaultKind) (n : Nat) (h : P s) : P (Machine.enterSafe k n s) := by
  unfold Machine.enterSafe
  dsimp only
  rw [changeMode_eq]
  exact K.writeRetained _ _ _ (K.mode .fault (K.setSeqQuiet h ⟨rfl, rfl, rfl, rfl⟩) ⟨nofun, nofun, fun _ => rfl, nofun⟩
    nofun)

theorem safeRequest (k : FaultKind) (n : Nat) (h : P s) : P (Machine.safeRequest k n s) := by
  unfold Machine.safeRequest
  split
  case h_1 => exact h
  case h_2 => exact K.writeRetained _ _ _ h
  all_goals exact K.enterSafe k n h

theorem assertLine (was : Bool) (r : Reaction) (h : P s) : P (Machine.assertLine was r s) := by
  have held := K.minTimer (some 200000) h
  unfold Machine.assertLine
  cases r with
  | report => exact h
  | degrade | safe =>
    dsimp only
    split
    · exact held
    · exact K.setCause _ held

theorem raise (k : FaultKind) (n : Nat) (h : P s) : P (Machine.raise k n s) := by
  have recorded := K.stageFault k ((s.faults.get k).raised k.momentary n) (K.putFault h (.raised k n _))
  unfold Machine.raise
  dsimp only
  refine K.assertLine _ _ (K.putFault ?_ ?_)
  · split
    · exact K.safeRequest _ _ recorded
    · exact recorded
    · exact recorded
  · have record : ∀ t : State, t.faults.get k = (s.faults.get k).raised k.momentary n →
        RecordFits k (t.faults.get k) ((s.faults.get k).raised k.momentary n).startAck := by
      intro t same; rw [same]; exact .startAck k _
    split <;> exact record _ (by simp)

theorem endFault (k : FaultKind) (h : P s) : P (Machine.endFault k s) := by
  unfold Machine.endFault
  dsimp only
  split
  · exact K.stageFault _ _ (K.putFault h (.latched _))
  · exact h
  · exact h

theorem escalate (k : FaultKind) (h : P s) : P (Machine.escalate k s) := by
  unfold Machine.escalate
  dsimp only
  split
  · exact K.safeRequest _ _ (K.stageFault _ _ (K.putFault h (.of_state rfl rfl rfl)))
  · exact K.putFault h (.of_state rfl rfl rfl)

/-! #### The selector and the tracker -/

theorem endCondition (k : Option FaultKind) (h : P s) : P (Machine.endCondition k s) := by
  cases k with
  | some k => exact K.endFault k h
  | none => exact h

theorem raiseCondition (k : Option FaultKind) (h : P s) : P (Machine.raiseCondition k s) := by
  cases k with
  | some k => exact K.raise k 0 h
  | none => exact h

theorem putQuantity (q : Quantity) (r : QuantityRecord) (h : P s) : P (Machine.putQuantity q r s) :=
  K.other h rfl rfl rfl rfl rfl

theorem reportSource (q : Quantity) (a b : Source) (h : P s) : P (Machine.reportSource q a b s) := by
  unfold Machine.reportSource
  split
  · exact h
  · exact K.stage _ h

theorem updateCondition (m : Mode) (q : Quantity) (h : P s) : P (Machine.updateCondition m q s) := by
  unfold Machine.updateCondition
  dsimp only
  split
  · exact h
  · exact K.raiseCondition _ (K.endCondition _ (K.putQuantity _ _ h))

theorem resolve (m : Mode) (q : Quantity) (phi : Int) (h : P s) : P (Machine.resolve m q phi s).1 :=
  K.updateCondition _ _ (K.reportSource _ _ _ (K.putQuantity _ _ h))

theorem selectorStage (m : Mode) (h : P s) : P (Machine.selectorStage m s).1 :=
  K.resolve _ _ _ (K.resolve _ _ _ (K.other (K.resolve _ _ _ (K.resolve _ _ _ h)) rfl rfl rfl rfl rfl))

theorem updateSpeedLost (v : Bool) (h : P s) : P (Machine.updateSpeedLost v s) := by
  unfold Machine.updateSpeedLost
  split
  · exact K.raise _ _ (K.other h rfl rfl rfl rfl rfl)
  · split
    · exact K.endFault _ (K.other h rfl rfl rfl rfl rfl)
    · exact h

theorem updateWheelDegraded (n k : Nat) (h : P s) : P (Machine.updateWheelDegraded n k s) := by
  unfold Machine.updateWheelDegraded
  split
  · exact K.raise _ _ (K.other h rfl rfl rfl rfl rfl)
  · split
    · exact K.endFault _ (K.other h rfl rfl rfl rfl rfl)
    · exact h

theorem trackerStage (h : P s) : P (Machine.trackerStage s).1 :=
  K.updateWheelDegraded _ _ (K.updateSpeedLost _ (K.other h rfl rfl rfl rfl rfl))

/-! #### The control cycle -/

theorem traceSample (h : P s) : P (Machine.traceSample s) := by
  have counted : ∀ x, P { s with port := { s.port with selection := x } } := fun x => K.portSame h rfl rfl rfl
  unfold Machine.traceSample
  dsimp only
  split
  · exact h
  · split
    · exact counted _
    · exact K.stage _ (counted _)

theorem cycleEndHeld (v : Nat) (h : P s) : P (Machine.cycleEndHeld v s) := by
  unfold Machine.cycleEndHeld
  split
  · exact K.enterReleasing _ h
  · exact h

theorem cycleEndReleasing (v : Nat) (h : P s) : P (Machine.cycleEndReleasing v s) := by
  unfold Machine.cycleEndReleasing
  split
  · exact K.enterEngaging _ h
  · split
    · exact K.enterEngaging _ h
    · exact h

theorem cycleEndActive (v : Nat) (h : P s) : P (Machine.cycleEndActive v s) := by
  unfold Machine.cycleEndActive
  split
  · exact K.enterCapturing _ h
  · split
    · exact K.enterCapturing _ h
    · exact h

theorem cycleEndCapturing (v : Nat) (h : P s) : P (Machine.cycleEndCapturing v s) := by
  have counted : ∀ n, P { s with seq := { s.seq with captureCount := n } } :=
    fun n => K.setSeqQuiet h ⟨rfl, rfl, rfl, rfl⟩
  unfold Machine.cycleEndCapturing
  split
  · exact K.enterActive _ h
  · dsimp only
    generalize (if s.captureSteady then bump 5 s.seq.captureCount else 0) = n
    split
    · exact K.enterEngaging _ (counted n)
    · exact counted n

/-- In SAFE the command is the latch, so both are released together (R24). -/
theorem cycleEndSafe (v : Nat) (h : P s) (mode : s.seq.mode = .safe) : P (Machine.cycleEndSafe v s) := by
  have released := K.seq (q := { s.seq with latchHolding := false, solenoid := false }) h rfl fun _ =>
    { dropped := fun _ => rfl
      pulled := fun pulled => absurd pulled (by simp [mode, Mode.lockPulled])
      latch := fun _ => rfl
      seated := fun held => absurd held (by simp [mode]) }
  unfold Machine.cycleEndSafe
  split
  · exact released
  · exact h

theorem cycleEnd (h : P s) : P (Machine.cycleEnd s) := by
  have kept : P { s with seq := { s.seq with lastSpeed := s.law.results.v } } :=
    K.setSeqQuiet h ⟨rfl, rfl, rfl, rfl⟩
  unfold Machine.cycleEnd
  dsimp only
  split
  case h_1 => exact kept
  case h_2 => exact K.cycleEndHeld _ kept
  case h_3 => exact K.cycleEndReleasing _ kept
  case h_4 => exact K.cycleEndActive _ kept
  case h_5 => exact K.cycleEndCapturing _ kept
  case h_6 => exact kept
  case h_7 mode => exact K.cycleEndSafe _ kept mode

theorem completeComputation (r : Results) (h : P s) : P (Machine.completeComputation r s) := by
  have taken : ∀ (c : Channel) (x : Int), ChannelMoves c { c with setpoint := x } := fun c x =>
    ⟨rfl, .inr, fun safe => ⟨safe.duty, safe.applied, safe.integrator, safe.quiet, safe.wanted, safe.driven⟩⟩
  have delivered : P { s with law := { s.law with computing := none, results := r },
                              drive := s.drive.takeSetpoints r } :=
    K.drive (s := { s with law := { s.law with computing := none, results := r } })
      (K.other h rfl rfl rfl rfl rfl) Iff.rfl (taken _ _) (taken _ _)
  exact K.traceSample (K.cycleEnd delivered)

theorem completeInProgress (h : P s) : P (Machine.completeInProgress s) := by
  unfold Machine.completeInProgress
  split
  · exact K.completeComputation _ h
  · exact h

theorem startComputation (h : P s) : P (Machine.startComputation s) := by
  have begun : P { s with law := { s.law with timer := some 2000, cycle := s.law.nextCycle, started := true } } :=
    K.other h rfl rfl rfl rfl rfl
  have served := K.trackerStage (K.selectorStage s.seq.mode begun)
  unfold Machine.startComputation
  dsimp only at served ⊢
  generalize Machine.trackerStage _ = tracked at served ⊢
  exact K.other served rfl rfl rfl rfl rfl

/-! #### The lock limit's timers -/

theorem giveUpRelease (h : P s) : P (Machine.giveUpRelease s) :=
  K.raise _ _ (K.enterEngaging _ (K.setSeqQuiet h ⟨rfl, rfl, rfl, rfl⟩))

theorem failEngagement (h : P s) : P (Machine.failEngagement s) := by
  have counted : P { s with seq := { s.seq with attemptCount := bump 3 s.seq.attemptCount, lockLimit := none } } :=
    K.setSeqQuiet h ⟨rfl, rfl, rfl, rfl⟩
  unfold Machine.failEngagement
  dsimp only
  split
  · exact K.enterCapturing _ counted
  · exact K.raise _ _ counted

/-! #### The sensor bus -/

theorem setBusState (b : Bus) (h : P s) : P (Machine.setBusState b s) := K.other h rfl rfl rfl rfl rfl

theorem finishPass (outcome : PassThrough → Done) (c : Bool) (h : P s) : P (Machine.finishPass outcome c s) := by
  unfold Machine.finishPass
  split
  · exact K.setBusState _ (K.stage _ h)
  · exact K.setBusState _ h

theorem stageTimeouts (l : List PassThrough) (h : P s) : P (Machine.stageTimeouts l s) := by
  induction l generalizing s with
  | nil => exact h
  | cons p rest ih => exact ih (K.stage _ h)

theorem finishClear (sda scl : Bool) (h : P s) : P (Machine.finishClear sda scl s) := by
  unfold Machine.finishClear
  split
  · refine K.setBusState _ ?_
    split
    · exact K.endFault _ h
    · exact h
  · unfold clearFailed
    split
    · exact K.setBusState _ (K.stageTimeouts _ h)
    · exact K.raise _ _ (K.setBusState _ h)

/-! #### The converter and the channels -/

theorem setConv (c : Converter) (h : P s) : P (Machine.setConv c s) := K.other h rfl rfl rfl rfl rfl

theorem applyCrossing (k : FaultKind) (c : Crossing) (h : P s) : P (Machine.applyCrossing k c s) := by
  cases c with
  | stays => exact h
  | sets => exact K.raise k 0 h
  | clears => exact K.endFault k h

theorem sampleHot (b : Bridge) (x : Int) (h : P s) : P (Machine.sampleHot b x s) := by
  unfold Machine.sampleHot
  dsimp only
  split
  · exact K.raise _ _ (K.setConv _ h)
  · exact K.endFault _ (K.setConv _ h)
  all_goals exact K.setConv _ h

theorem watch (c : NormalChannel) (h : P s) : P (Machine.watch c s) := by
  cases c with
  | an0 => exact K.applyCrossing _ _ (K.setConv _ (K.applyCrossing _ _ (K.setConv _ h)))
  | an1 => exact K.sampleHot _ _ h
  | an2 => exact K.sampleHot _ _ h
  | an3 | an4 | an5 => exact h

end

end KeptCore

end Sys2Proof.Proofs

/-! The rest of the operations that `KeptCore` covers, up to the step: the channels, the directives, the window's
work, the accesses, the resets and the passing of time. -/

namespace Sys2Proof.Proofs
open Sys2Proof.Machine

/-! ### The channels -/

theorem nextIntegrator_natAbs (kpi ki : Nat) (e : Int) {i : Int} (within : i.natAbs ≤ 3891200) :
    (nextIntegrator kpi ki e i).natAbs ≤ 3891200 := by
  unfold nextIntegrator
  dsimp only
  split
  · exact within
  · exact clampSym_natAbs _ _

/-- A loop step of an ON channel, whatever its over-current run (R137, R138). -/
theorem loopStep_moves (c : Channel) (on : c.state = .on) (n : Nat) (u : Tuning) (measured : Int) :
    ChannelMoves c (({ c with overRun := n } : Channel).loopStep u measured) where
  wanted := rfl
  tripped := .inr
  safe safe :=
    { duty := clampSym_natAbs _ _
      applied := safe.applied
      integrator := nextIntegrator_natAbs _ _ _ safe.integrator
      quiet := fun off => absurd on off
      wanted := safe.wanted
      driven := safe.driven }

/-- The trip of an ON channel (R140). -/
theorem trip_moves (c : Channel) (on : c.state = .on) : ChannelMoves c c.trip where
  wanted := rfl
  tripped _ := .inl on
  safe safe :=
    { duty := by simp [Channel.trip]
      applied := by simp [Channel.trip]
      integrator := safe.integrator
      quiet := fun _ => ⟨rfl, rfl⟩
      wanted := nofun
      driven := fun _ => nofun }

theorem take_moves (c : Channel) (on : c.state = .on) (u : Tuning) (measured : Int) :
    ChannelMoves c (c.take u measured).1 := by
  unfold Channel.take
  split
  · split
    · exact loopStep_moves c on _ u measured
    · exact trip_moves c on
  · exact loopStep_moves c on _ u measured

/-- An ON channel loads its applied duty from its duty (R132). -/
theorem load_moves (c : Channel) : ChannelMoves c c.load := by
  unfold Channel.load
  split
  case h_1 on =>
    exact ⟨rfl, .inr, fun safe => ⟨safe.duty, safe.duty, safe.integrator, fun off => absurd on off, safe.wanted,
      safe.driven⟩⟩
  all_goals exact .refl c

/-! ### The rings -/

/-- A report that can be published leaves its ring safe (R175). -/
theorem advance_safe {id : RingId} {r : Ring} {rep : Report} {rest : List Report} (safe : RingSafe id r)
    (queue : r.queue = rep :: rest) (fits : r.canPublish id.areaSize rep = true) :
    RingSafe id (r.advance id.areaSize rep rest) := by
  obtain ⟨frames, -, -, even, inArea, room⟩ := safe
  simp only [Ring.canPublish, Bool.and_eq_true, decide_eq_true_eq] at fits
  obtain ⟨few, bytes⟩ := fits
  have size : 0 < id.areaSize ∧ id.areaSize % 2 = 0 := by cases id <;> decide
  have length : footprint rep.frame.length % 2 = 0 := by unfold footprint; omega
  refine
    { frames := ?frames
      atMost := by simp only [Ring.advance, List.length_append, List.length_singleton]; omega
      bytes := by simp only [Ring.advance, List.sum_append, List.sum_singleton]; omega
      even := ?even
      inArea := Nat.mod_lt _ size.1
      room := by simp only [queue, List.length_cons] at room; exact (Nat.le_succ _).trans room }
  case frames =>
    simp only [Ring.advance, List.length_append, List.length_singleton, ← frames]
    bv_omega
  case even =>
    have sum : (r.writePos + footprint rep.frame.length) % 2 = 0 := by omega
    exact (Nat.mod_mod_of_dvd _ (Nat.dvd_of_mod_eq_zero size.2)).trans sum

theorem ringSafe_of_ringsSafe {p : Port} (safe : RingsSafe p) (id : RingId) : RingSafe id (p.ring id) := by
  cases id with
  | event => exact safe.event
  | trace => exact safe.trace

theorem setRing_safe {p : Port} {id : RingId} {r : Ring} (safe : RingsSafe p) (ring : RingSafe id r) :
    RingsSafe (p.setRing id r) := by
  cases id with
  | event => exact ⟨ring, safe.trace⟩
  | trace => exact ⟨safe.event, ring⟩

theorem publish_safe (id : RingId) (n : Nat) {p : Port} (safe : RingsSafe p) : RingsSafe (publish n id p) := by
  induction n generalizing p with
  | zero => exact safe
  | succ n ih =>
    unfold publish
    dsimp only
    split
    · exact safe
    · rename_i queue
      split
      · rename_i fits
        refine ih (setRing_safe ?_ (advance_safe (ringSafe_of_ringsSafe safe id) queue fits))
        exact ⟨safe.event, safe.trace⟩
      · exact safe

theorem serveUpTo_safe (events traces : Nat) (host other : Word) {p : Port} (safe : RingsSafe p) :
    RingsSafe (p.serveUpTo events traces host other) :=
  publish_safe _ _ (publish_safe _ _ ⟨release_safe safe.event host, release_safe safe.trace other⟩)

/-! ### The memory under the host's accesses -/

theorem setPort_setPort (p p' : Port) (s : State) : setPort p (setPort p' s) = setPort p s := rfl

theorem serve_wf (p : Port) (a : Nat) (op : AccessOp) (h : p.mem.wf = true) : (p.serve a op).mem.wf = true := by
  cases op with
  | read => exact h
  | write w => exact Memory.writeWord_wf _ _ _ h

theorem serve_rings (p : Port) (a : Nat) (op : AccessOp) :
    (p.serve a op).event = p.event ∧ (p.serve a op).trace = p.trace := by
  cases op <;> exact ⟨rfl, rfl⟩

theorem serveAll_wf (l : List Access) {p : Port} (h : p.mem.wf = true) : (p.serveAll l).mem.wf = true := by
  induction l generalizing p with
  | nil => exact h
  | cons a l ih => exact ih (serve_wf _ _ _ h)

theorem serveAll_rings (l : List Access) (p : Port) :
    (p.serveAll l).event = p.event ∧ (p.serveAll l).trace = p.trace := by
  induction l generalizing p with
  | nil => exact ⟨rfl, rfl⟩
  | cons a l ih =>
    obtain ⟨event, trace⟩ := ih (p.serve (wordAddress a.addr) a.op)
    obtain ⟨event', trace'⟩ := serve_rings p (wordAddress a.addr) a.op
    exact ⟨event.trans event', trace.trans trace'⟩

/-! ### The resets -/

theorem cleared_atReset (phase : ResetPhase) (rstn : Bool) (kept : Retained) (mem : Memory) (driven : Word)
    (enable : BitVec 7) (mode : PortMode) (s : State) :
    AtReset (cleared phase rstn kept mem driven enable mode s) :=
  ⟨⟨_, _, _, rfl, rfl, rfl⟩, rfl, ⟨none, rfl⟩, ⟨kept, rfl⟩, rfl, rfl⟩

theorem endReset_atReset (s : State) : AtReset (endReset s) :=
  ⟨⟨_, _, _, rfl, rfl, rfl⟩, rfl, ⟨some 50, rfl⟩, ⟨_, rfl⟩, rfl, rfl⟩

/-- What an abandoned window has written stays canonical (R164). -/
theorem abandonWindow_wf {s : State} (h : s.port.mem.wf = true) : (abandonWindow s).port.mem.wf = true := by
  have written : ∀ (chosen : Nat → Bool) (next : Memory) (a : State), a.port.mem.wf = true →
      (setPort { a.port with mem := Memory.mixed chosen next a.port.mem } a).port.mem.wf = true :=
    fun _ _ _ worked => by rw [setPort_port, Memory.mixed_wf _ _ _ worked]
  unfold abandonWindow
  split
  · exact written _ _ _ ((windowWork_mem _ s).1 h)
  · exact h
  · exact h

/-! ### SET_FAULT_POLICY -/

theorem withPolicy_fits (k : FaultKind) (r : FaultRecord) (asked : Reaction) (timeout : Nat) :
    RecordFits k r (r.withPolicy (asked.atLeast k.floor) timeout) := by
  have atLeast : k.floor.code ≤ (asked.atLeast k.floor).code := by
    rw [code_atLeast]; exact le_max_right _ _
  refine ⟨fun _ reaction => ?_, fun _ h => by rwa [withPolicy_state], fun h => by rwa [withPolicy_state] at h⟩
  rw [withPolicy_eq]
  split
  · exact ⟨atLeast, atLeast⟩
  · exact ⟨atLeast, reaction⟩

/-! ### The operations -/

/-- A part that is ready has its pin seated (R10). -/
theorem engaged_of_ready {s : State} (ready : s.unready = none) : s.seq.lockDrive = .engaged := by
  unfold State.unready at ready
  by_contra loose
  rw [if_pos loose] at ready
  split at ready
  · cases ready
  · split at ready <;> cases ready

namespace KeptCore

section
variable {P : State → Prop} (K : KeptCore P) {s : State}
include K

theorem channelTake (b : Bridge) (h : P s) : P (Machine.channelTake b s) := by
  unfold Machine.channelTake
  dsimp only
  split
  case h_1 on =>
    have taken : ∀ c, ChannelMoves (s.drive.channel b) c → P { s with drive := s.drive.setChannel b c } := by
      intro c moves
      cases b with
      | tilt => exact K.drive h Iff.rfl moves (.refl _)
      | steer => exact K.drive h Iff.rfl (.refl _) moves
    have taken := taken _ (take_moves _ on s.tuning (s.conv.current b))
    split
    · exact K.raise _ _ taken
    · exact taken
  all_goals exact h

/-! #### The directives -/

theorem enable (h : P s) : P (Machine.enable s).1 := by
  unfold Machine.enable
  split
  · split
    · exact h
    · rename_i ready; exact K.enterHeld _ h (engaged_of_ready ready)
  · exact h

theorem disable (h : P s) : P (Machine.disable s).1 := by
  unfold Machine.disable
  split
  case h_2 held => exact K.enterOff_of_held _ h held
  case h_3 =>
    split
    · exact K.enterOff_requestSwap _ h
    · exact h
  all_goals exact h

theorem recover (h : P s) : P (Machine.recover s).1 := by
  have counted : P { s with seq := { s.seq with attemptCount := 0 } } := K.setSeqQuiet h ⟨rfl, rfl, rfl, rfl⟩
  unfold Machine.recover
  split
  · split
    · exact h
    · dsimp only
      split
      · rename_i seated; exact K.enterHeld _ counted seated
      · exact K.enterCapturing _ counted
  · exact h

/-- A LOAD directive writes the pending bank while no commit is pending (R57). -/
theorem load (write : Bank → Bank) (n : Nat) (h : P s) : P (Machine.load write n s).1 := by
  unfold Machine.load
  split
  · exact h
  · rename_i free
    exact K.tables h fun safe => ⟨safe.active, fun pending => absurd pending free, fun pending => absurd pending free⟩

theorem loadMap (body : List Byte) (h : P s) : P (Machine.loadMap body s).1 := by
  unfold Machine.loadMap
  dsimp only
  split
  · exact K.load _ _ h
  · exact h

theorem commitTables (h : P s) : P (Machine.commitTables s).1 := by
  cases free : s.tables.commitPending with
  | true => rw [commitTables_of_pending free]; exact h
  | false =>
    cases passed : s.tables.pendingBank.failingCheck with
    | some n => rw [commitTables_of_failing free passed]; exact h
    | none =>
      rw [commitTables_of_passing free passed]
      split
      · exact K.swap h fun _ => passed
      · rename_i moving
        exact K.tables h fun safe => ⟨safe.active, fun _ => passed, fun _ => not_or.1 moving⟩

theorem discardTables (h : P s) : P (Machine.discardTables s).1 := by
  have discarded : P { s with tables := { s.tables with pendingBank := s.tables.activeBank, commitPending := false } } :=
    K.tables h fun safe => ⟨safe.active, nofun, nofun⟩
  unfold Machine.discardTables
  dsimp only
  split
  · exact discarded
  · split
    · exact h
    · exact discarded

theorem setDevice (body : List Byte) (h : P s) : P (Machine.setDevice body s).1 := by
  unfold Machine.setDevice
  split
  · dsimp only
    split
    · exact K.setBusState _ h
    · exact h
  · exact h

theorem setSources (body : List Byte) (h : P s) : P (Machine.setSources body s).1 := by
  unfold Machine.setSources
  split
  · exact K.reportSource _ _ _ (K.reportSource _ _ _ (K.reportSource _ _ _ (K.reportSource _ _ _
      (K.other h rfl rfl rfl rfl rfl))))
  · exact h

theorem setWheel (body : List Byte) (h : P s) : P (Machine.setWheel body s).1 := by
  unfold Machine.setWheel
  split
  · exact h
  · split
    · exact K.other h rfl rfl rfl rfl rfl
    · exact h

theorem setBusSpeed (body : List Byte) (h : P s) : P (Machine.setBusSpeed body s).1 := by
  unfold Machine.setBusSpeed
  split
  · exact K.setBusState _ h
  · exact h

theorem setFaultPolicy (body : List Byte) (h : P s) : P (Machine.setFaultPolicy body s).1 := by
  unfold Machine.setFaultPolicy
  split
  · exact h
  · exact K.putFault h (withPolicy_fits _ _ _ _)

theorem ackFault (body : List Byte) (h : P s) : P (Machine.ackFault body s).1 := by
  unfold Machine.ackFault
  split
  · exact h
  · dsimp only
    split
    · exact h
    all_goals exact K.putFault h (.of_state rfl rfl rfl)

theorem clearFault (body : List Byte) (h : P s) : P (Machine.clearFault body s).1 := by
  unfold Machine.clearFault
  split
  · exact h
  · split
    · exact h
    · exact h
    · exact K.clear _ h

theorem passThrough (tag : Byte) (body : List Byte) (h : P s) : P (Machine.passThrough tag body s).1 := by
  unfold Machine.passThrough
  dsimp only
  split
  · exact h
  · split
    · exact h
    · exact K.setBusState _ h

theorem deliver (d : Directive) (tag : Byte) (body : List Byte) (h : P s) : P (Machine.deliver d tag body s).1 := by
  cases d with
  | enable => exact K.enable h
  | disable => exact K.disable h
  | recover => exact K.recover h
  | lockHold => exact K.setSeqQuiet h ⟨rfl, rfl, rfl, rfl⟩
  | loadAxes | loadSchedule | loadTuning => exact K.load _ _ h
  | loadMap => exact K.loadMap _ h
  | commitTables => exact K.commitTables h
  | discardTables => exact K.discardTables h
  | setDevice => exact K.setDevice _ h
  | setSources => exact K.setSources _ h
  | setWheel => exact K.setWheel _ h
  | setBus => exact K.setBusSpeed _ h
  | setFaultPolicy => exact K.setFaultPolicy _ h
  | ackFault => exact K.ackFault _ h
  | clearFault => exact K.clearFault _ h
  | passThrough => exact K.passThrough _ _ h
  | setTrace | setReportMap => exact K.portSame h rfl rfl rfl

theorem takeInPlace (frame : List Byte) (h : P s) : P (Machine.takeInPlace frame s) := by
  have delivered : P (Machine.decodeAndDeliver (frame.getD 0 0) (frame.getD 1 0) (frame.drop 2) s).1 := by
    unfold Machine.decodeAndDeliver
    split
    · exact h
    · split
      · exact K.deliver _ _ _ h
      · exact h
  unfold Machine.takeInPlace stageDone
  dsimp only
  split
  · exact K.stage _ delivered
  · exact delivered

/-! #### The window -/

theorem takeFrame (h : P s) : P (Machine.takeFrame s) := by
  have judged : P (Machine.judgeFrame s) := by
    have expected : ∀ n, P (setPort { s.port with expected := n } s) := fun n => K.portSame h rfl rfl rfl
    unfold Machine.judgeFrame
    dsimp only
    split
    · exact K.stage _ h
    · split
      · exact K.stage _ (expected _)
      · exact K.takeInPlace _ (expected _)
  exact K.portSame judged rfl rfl rfl

theorem takeFrames (n : Nat) (close : Word) (h : P s) : P (Machine.takeFrames n close s) := by
  induction n generalizing s with
  | zero => exact h
  | succ n ih =>
    unfold Machine.takeFrames
    split
    · exact h
    · exact ih (K.takeFrame h)

theorem intakeUpTo (n : Nat) (close : Word) (h : P s) : P (Machine.intakeUpTo n close s) := by
  unfold Machine.intakeUpTo
  split
  · split
    · exact h
    · exact K.raise _ _ (K.portSame h rfl rfl rfl)
  · exact K.takeFrames _ _ h

theorem writeOwned (h : P s) : P (Machine.writeOwned s) := by
  have written := (writeOwned_mem s).1
  unfold Machine.writeOwned at written ⊢
  dsimp only at written ⊢
  rw [setPort_setPort] at written ⊢
  exact K.port h written fun safe => ⟨safe.event, safe.trace⟩

theorem windowWork (n : Nat) (h : P s) : P (Machine.windowWork n s) := by
  have taken := K.intakeUpTo (min 4 n) (s.port.mem.readWord 0x0000) h
  unfold Machine.windowWork
  dsimp only
  generalize Machine.intakeUpTo _ _ s = u at taken ⊢
  generalize served : (if 4 < n then _ else u) = v
  have kept : P v := by
    rw [← served]
    split
    · exact K.port taken (serveUpTo_mem ..).1 fun safe => serveUpTo_safe _ _ _ _ safe
    · exact taken
  split
  · exact K.writeOwned kept
  · exact kept

theorem setCauseIf (b : Bool) (c : Cause) (h : P s) : P (Machine.setCauseIf b c s) := by
  cases b with
  | true => exact K.setCause c h
  | false => exact h

theorem closeWindow (h : P s) : P (Machine.closeWindow s) := by
  have rings := serveAll_rings s.port.held { s.port with window := .closed, windowAge := 0, held := [] }
  exact K.port h (fun safe => serveAll_wf _ safe) fun safe => ⟨rings.1 ▸ safe.event, rings.2 ▸ safe.trace⟩

theorem runWindow (h : P s) : P (Machine.runWindow s) :=
  K.closeWindow (K.setCauseIf _ _ (K.setCauseIf _ _ (K.setCauseIf _ _ (K.windowWork _ h))))

/-! #### The accesses -/

theorem serve (a : Nat) (op : AccessOp) (h : P s) : P (setPort (s.port.serve a op) s) :=
  K.port h (serve_wf _ _ _) fun safe =>
    ⟨(serve_rings s.port a op).1 ▸ safe.event, (serve_rings s.port a op).2 ▸ safe.trace⟩

theorem afterGuarded (h : P s) : P (setPort s.port.afterGuarded s) := by
  unfold Port.afterGuarded
  split
  · exact K.portSame h rfl rfl rfl
  · split <;> exact K.portSame h rfl rfl rfl
  · exact K.portSame h rfl rfl rfl

theorem completeAccess (h : P s) : P (Machine.completeAccess s) := by
  unfold Machine.completeAccess
  split
  · exact h
  · exact K.afterGuarded (K.serve _ _ (K.portSame (p := { s.port with inProgress := none }) h rfl rfl rfl))

theorem collide (a : Access) (h : P s) : P (Machine.collide a s) := by
  unfold Machine.collide
  split
  · exact K.portSame h rfl rfl rfl
  · exact K.setCause _ (K.portSame h rfl rfl rfl)

theorem wholeGuarded (a : Access) (h : P s) : P (Machine.wholeGuarded a s) := by
  unfold Machine.wholeGuarded
  split
  · exact K.collide a h
  all_goals exact K.completeAccess (K.portSame h rfl rfl rfl)

theorem beginGuarded (a : Access) (h : P s) : P (Machine.beginGuarded a s) := by
  unfold Machine.beginGuarded
  split
  · exact K.collide a h
  all_goals exact K.portSame h rfl rfl rfl

theorem beginSoft (h : P s) : P (Machine.beginSoft s) :=
  K.reset h (cleared_atReset ..) fun safe => Memory.countsZeroed_wf _ (abandonWindow_wf safe)

theorem writeXctrl (w : Word) (h : P s) : P (Machine.writeXctrl w s) := by
  have mode : P (setPort { s.port with mode := portModeOf w } s) := K.portSame h rfl rfl rfl
  unfold Machine.writeXctrl
  dsimp only
  split
  · exact mode
  · exact K.beginSoft mode

theorem readXstatHold (h : P s) : P (Machine.readXstatHold s) := by
  have driven : P (drives s.xstat s) := K.portSame h rfl rfl rfl
  unfold Machine.readXstatHold
  dsimp only
  split
  · exact driven
  all_goals exact K.portSame driven rfl rfl rfl

theorem serveElsewhere (place : Place) (op : AccessOp) (h : P s) : P (Machine.serveElsewhere place op s) := by
  have driven : ∀ w, P (drives w s) := fun w => K.portSame h rfl rfl rfl
  cases place with
  | guarded a | scratch a => exact K.serve a op h
  | xstat | unused =>
    cases op with
    | read => exact driven _
    | write w => exact h
  | xstatHold =>
    cases op with
    | read => exact K.readXstatHold h
    | write w => exact h
  | xcause | xcauseEn =>
    cases op with
    | read => exact driven _
    | write w => exact K.portSame h rfl rfl rfl
  | xctrl =>
    cases op with
    | read => exact driven _
    | write w => exact K.writeXctrl w h

theorem accessInReset (op : AccessOp) (h : P s) : P (Machine.accessInReset op s) := by
  cases op with
  | read => exact K.portSame h rfl rfl rfl
  | write w => exact h

theorem access (addr : Word) (op : AccessOp) (h : P s) : P (Machine.access addr op s) := by
  unfold Machine.access
  split
  case h_1 =>
    unfold accessRunning
    dsimp only
    split
    · exact K.wholeGuarded _ (K.completeAccess h)
    · exact K.serveElsewhere _ _ (K.completeAccess h)
  all_goals exact K.accessInReset op h

theorem beginAccess (addr : Word) (op : AccessOp) (h : P s) : P (Machine.beginAccess addr op s) := by
  unfold Machine.beginAccess
  split
  case h_1 =>
    unfold beginRunning
    dsimp only
    split
    · exact K.beginGuarded _ (K.completeAccess h)
    · exact K.serveElsewhere _ _ (K.completeAccess h)
  all_goals exact K.accessInReset op h

theorem timerExpiry (h : P s) : P (setPort s.port.timerExpiry s) := by
  unfold Port.timerExpiry
  dsimp only
  split
  · split
    · exact K.portSame h rfl rfl rfl
    · split <;> exact K.portSame h rfl rfl rfl
  all_goals exact K.portSame h rfl rfl rfl

/-! #### Time -/

theorem elapseRunning (h : P s) : P s.elapseRunning := by
  have seq : P { s with seq := s.seq.elapse } := K.setSeqQuiet h ⟨rfl, rfl, rfl, rfl⟩
  have drive : P { s with seq := s.seq.elapse, drive := s.drive.elapse } :=
    K.drive seq Iff.rfl (.refl _) (.refl _)
  have record : ∀ k, s.faults.elapse.get k = (s.faults.get k).elapse := fun k => by
    simp [FaultMonitor.get, FaultMonitor.elapse, tableMap_get]
  have faults : P { s with seq := s.seq.elapse, drive := s.drive.elapse, faults := s.faults.elapse } := by
    refine K.faults drive (fun safe => ⟨fun k => ?_, fun k => ?_, fun k lasting => ?_⟩) fun k clear => ?_
    · rw [record]; exact safe.policy k
    · rw [record]; exact safe.reaction k
    · rw [record]; exact safe.momentary k lasting
    · rwa [record] at clear
  exact K.other (K.portSame (p := s.port.elapse) faults rfl rfl rfl) rfl rfl rfl rfl rfl

theorem passMicrosecond (h : P s) : P (Machine.passMicrosecond s) := by
  have ticked : P { s with ticks := s.ticks + 1 } := K.other h rfl rfl rfl rfl rfl
  unfold Machine.passMicrosecond
  dsimp only
  split
  · exact K.elapseRunning ticked
  · exact K.other h rfl rfl rfl rfl rfl
  all_goals exact ticked

end

end KeptCore

/-! ### The lock drive -/

theorem lockDrive_eq_of_level {q q' : Sequencer} (lke : q'.lke.level = q.lke.level) (lkr : q'.lkr.level = q.lkr.level) :
    q'.lockDrive = q.lockDrive := by
  rw [Sequencer.lockDrive, lke, lkr, Sequencer.lockDrive]

theorem setContact_keeps (q : Sequencer) (l : Line) (c : Contact) :
    (q.setContact l c).mode = q.mode ∧ (q.setContact l c).solenoid = q.solenoid ∧
      (q.setContact l c).latchHolding = q.latchHolding := by
  cases l <;> exact ⟨rfl, rfl, rfl⟩

/-- A contact whose debounced level stands leaves the lock drive state. -/
theorem setContact_lockDrive (q : Sequencer) (l : Line) (c : Contact) (level : c.level = (q.contact l).level) :
    (q.setContact l c).lockDrive = q.lockDrive := by
  cases l with
  | lke => exact lockDrive_eq_of_level level rfl
  | lkr => exact lockDrive_eq_of_level rfl level
  | lrq => rfl

namespace KeptCore

section
variable {P : State → Prop} (K : KeptCore P) {s : State}
include K

theorem contactLineChange (l : Line) (closed : Bool) {t : State} (h : P s)
    (next : execContactLineChange l closed s = .next t) : P t := by
  cases next
  have keeps := fun c => setContact_keeps s.seq l c
  refine K.setSeqQuiet h ⟨(keeps _).1, (keeps _).2.1, (keeps _).2.2, setContact_lockDrive _ _ _ ?_⟩
  split
  · unfold Contact.move; split <;> rfl
  all_goals rfl

theorem conflictChange (a b : LockDrive) (h : P s) : P (Machine.conflictChange a b s) := by
  unfold Machine.conflictChange
  split
  · exact K.raise _ _ h
  · split
    · exact K.endFault _ h
    · exact h

/-- A lock drive change seen by a sequencer that already holds the new level. -/
theorem lockDriveChange (before after : LockDrive) (h : P s) (level : s.seq.lockDrive = after) :
    P (Machine.lockDriveChange before after s) := by
  have conflict := K.conflictChange before after h
  have seated : after = .engaged →
      (Machine.endFault .lockPositionLost (Machine.conflictChange before after s)).seq = s.seq := by
    rintro rfl
    unfold Machine.conflictChange
    rw [if_neg nofun]
    split <;> simp
  unfold Machine.lockDriveChange
  dsimp only
  generalize ended : (if after = .engaged then _ else _) = u
  have kept : P u := by
    rw [← ended]
    split
    · exact K.endFault _ conflict
    · exact conflict
  split
  · split
    · exact K.raise _ _ kept
    · exact kept
  · split
    · exact K.enterMode_active _ kept
    · exact kept
  · split
    · rename_i engaged
      refine K.enterHeld _ kept ?_
      rw [← ended, if_pos engaged, seated engaged, level, engaged]
    · exact kept
  all_goals exact kept

end

end KeptCore

/-- Outside HELD a contact's level is of no concern to `LockFits`. -/
theorem lockFits_setContact {q : Sequencer} (l : Line) (c : Contact) (moving : q.mode ≠ .held) (fits : LockFits q) :
    LockFits (q.setContact l c) := by
  obtain ⟨mode, solenoid, latch⟩ := setContact_keeps q l c
  constructor
  · rw [mode, solenoid]; exact fits.dropped
  · rw [mode, solenoid]; exact fits.pulled
  · rw [mode, solenoid, latch]; exact fits.latch
  · rw [mode]; exact fun held => absurd held moving

namespace Kept

section
variable {P : State → Prop} (K : Kept P) {s : State}
include K

/-- In HELD the pin leaves its seat: into CONFLICT, or into a position that is lost (R6, R13). -/
theorem lockDriveChange_of_held {q : Sequencer} {after : LockDrive} (h : P s) (held : s.seq.mode = .held)
    (mode : q.mode = .held) (solenoid : q.solenoid = s.seq.solenoid) (left : after ≠ .engaged) :
    P (lockDriveChange .engaged after { s with seq := q }) := by
  have raised : ∀ k : FaultKind, k.floor = .safe → P (raise k 0 { s with seq := q }) := fun k floor =>
    K.unseated k h floor held mode solenoid
  unfold lockDriveChange conflictChange
  by_cases conflict : after = .conflict
  · simp only [if_pos conflict, if_neg left]
    have entered := raised .lockContactsConflict rfl
    split
    · rw [if_neg (by simp [conflict])]; exact entered
    · rw [if_neg (by simp [conflict])]; exact entered
    all_goals exact entered
  · have lost : after = .moving ∨ after = .released := by cases after <;> simp_all
    simp only [if_neg conflict, if_neg left, reduceCtorEq, if_false, mode, true_and, if_pos lost]
    exact raised .lockPositionLost rfl

theorem acceptContact (l : Line) (h : P s) : P (Machine.acceptContact l s) := by
  obtain ⟨mode, solenoid, latch⟩ := setContact_keeps s.seq l (s.seq.contact l).accept
  unfold Machine.acceptContact
  dsimp only
  split
  case isTrue same => exact K.setSeqQuiet h ⟨mode, solenoid, latch, same.symm⟩
  case isFalse changed =>
    by_cases leaves : s.seq.mode = .held ∧ s.seq.lockDrive = .engaged
    · obtain ⟨held, engaged⟩ := leaves
      rw [engaged] at changed ⊢
      exact K.lockDriveChange_of_held h held (mode.trans held) solenoid (Ne.symm changed)
    · refine K.lockDriveChange _ _ (K.setSeq h mode solenoid fun fits => ?_) rfl
      exact lockFits_setContact _ _ (fun held => leaves ⟨held, fits.seated held⟩) fits

/-! ### The step -/

theorem exec {i : Instr} {t : State} (h : P s) (next : Machine.exec i s = .next t) : P t := by
  have nothing : (Host.Outcome.next s : Host.Outcome State Fault Refusal) = .next t → P t := by
    rintro ⟨⟩; exact h
  cases i with
  | powerOnReset => cases next; exact K.reset h (cleared_atReset ..) fun _ => rfl
  | pinReset =>
    have begun : P (beginPin s) :=
      K.reset h (cleared_atReset ..) fun safe => Memory.countsZeroed_wf _ (abandonWindow_wf safe)
    have lowered : P { s with rstn := false } := K.other h rfl rfl rfl rfl rfl
    cases next
    split
    · exact begun
    · exact begun
    all_goals exact lowered
  | softReset w | setPortMode w | xstatHoldRead | xcauseWrite w | registerWrite a w | hostScratchAccess a op =>
    cases next; exact K.access _ _ h
  | resetEnd =>
    cases next
    split
    · exact h
    all_goals exact K.reset h (endReset_atReset s) id
  | hostGuardedAccess e =>
    cases next
    cases e with
    | whole a op => exact K.access _ _ h
    | begins a op => exact K.beginAccess _ _ h
    | completes => exact K.completeAccess h
  | exchangeTimerExpiry =>
    cases next
    split
    · exact K.timerExpiry h
    · exact h
  | deferralLimitExpiry =>
    have expired := K.setCause .holdExpired (K.portSame (p := { s.port with deferral := none }) h rfl rfl rfl)
    cases next
    split
    · dsimp only
      split
      · exact expired
      · exact K.portSame expired rfl rfl rfl
    · exact h
  | windowOpen =>
    cases next
    split
    · exact K.runWindow h
    all_goals exact h
  | controlCycleExpiry now =>
    cases next
    split
    · split
      · exact K.startComputation (K.completeInProgress h)
      · exact h
    · exact h
  | computationComplete =>
    cases next
    split
    · exact K.completeComputation _ h
    · exact h
  | contactLineChange l closed => exact K.contactLineChange l closed h next
  | contactAccepted l =>
    cases next
    split
    · exact K.acceptContact l h
    · exact h
  | releaseLimitExpiry =>
    cases next
    split
    · exact K.giveUpRelease h
    · exact h
  | engageLimitExpiry =>
    cases next
    split
    · exact K.failEngagement h
    · exact h
  | releaseHoldOffExpiry => cases next; exact K.setSeqQuiet h ⟨rfl, rfl, rfl, rfl⟩
  | solenoidPullInExpiry =>
    cases next
    split
    case h_1 pulling _ => exact K.drive h (by simp [pulling]) (.refl _) (.refl _)
    case h_2 => exact h
  | roundTimerExpiry =>
    cases next
    split
    · exact K.setBusState _ h
    · exact h
  | pollComplete a formed =>
    cases next
    split
    · exact K.setBusState _ h
    all_goals exact h
  | passThroughComplete a formed =>
    cases next
    split
    · exact K.finishPass _ _ (K.setBusState _ h)
    all_goals exact h
  | sclHoldTimeout sda scl =>
    cases next
    split
    · exact K.setBusState _ h
    · exact K.finishPass _ _ h
    · exact K.finishClear _ _ h
    · exact h
  | busClearComplete sda scl =>
    cases next
    split
    · exact K.finishClear _ _ h
    all_goals exact h
  | wheelPulse w stamp =>
    cases next
    split
    · split
      · exact K.other h rfl rfl rfl rfl rfl
      · exact h
    all_goals exact h
  | normalConversionComplete raw =>
    cases next
    split
    · exact K.watch _ (K.setConv _ h)
    · exact h
  | injectedTrigger =>
    cases next
    split
    · exact K.setConv _ h
    · exact h
  | injectedComplete a b first =>
    cases next
    split
    · exact K.channelTake _ (K.channelTake _ (K.setConv _ h))
    · exact h
  | pwmPeriodStart =>
    cases next
    split
    · exact K.drive h Iff.rfl (load_moves _) (load_moves _)
    · exact h
  | ackTimerExpiry k =>
    cases next
    split
    · exact K.escalate k h
    · exact h
  | fltnMinTimerExpiry => cases next; exact K.minTimer none h

theorem step {t : State} (h : P s) (next : Machine.step s = .next t) : P t := by
  unfold Machine.step at next
  split at next
  · rename_i rest _
    have taken : P { s with pending := rest } := K.other h rfl rfl rfl rfl rfl
    exact K.exec taken next
  · unfold idle at next
    split at next
    · cases next; exact K.passMicrosecond h
    · exact K.exec h next

end

end Kept

end Sys2Proof.Proofs

/-! The five invariants, each as a property that the updates of `KeptCore` keep. -/

namespace Sys2Proof.Proofs
open Sys2Proof.Machine

theorem modeChanged_port (s : State) (c : ModeCause) (q : Sequencer) (tilt steer : Bool) :
    (s.modeChanged c q tilt steer).port = (stage (.modeChanged s.seq.mode q.mode c) s).port := rfl

/-! ### The exchange memory -/

theorem memoryCore : KeptCore fun s => MemorySafe s.port where
  other h _ _ _ _ port := by rw [MemorySafe, port]; exact h
  port h mem _ := mem h
  seq h _ _ := h
  mode c q h _ _ := by rw [modeChanged_port, MemorySafe, (stage_keeps _ _).2.2.2.2.2.2.2.2.2.2.2.2.2.1]; exact h
  modeSwap c q h _ := by simp only [MemorySafe, requestSwap_keeps, modeChanged_port, stage_keeps]; exact h
  faults h _ _ := h
  clear k h := by simp only [MemorySafe, clearKind_keeps]; exact h
  drive h _ _ _ := h
  tables h _ := h
  reset h _ mem := mem h

/-- Settles O4. -/
theorem memoryStaysCanonical : Obligations.MemoryStaysCanonical := fun _ _ safe next =>
  Kept.step { memoryCore with unseated := fun k h _ _ _ _ => memoryCore.raise k 0 h } safe next

/-! ### The report rings -/

theorem stage_rings (b : ReportBody) {s : State} (safe : RingsSafe s.port) : RingsSafe (stage b s).port := by
  obtain ⟨p, staged, -, rings⟩ := stage_port b s
  rw [staged]
  exact rings safe

theorem requestSwap_rings {s : State} (safe : RingsSafe s.port) : RingsSafe (requestSwap s).port := by
  unfold requestSwap
  split
  · exact stage_rings _ safe
  · exact safe

theorem cleared_ringSafe (id : RingId) : RingSafe id .cleared where
  frames := rfl
  atMost := Nat.zero_le _
  bytes := Nat.zero_le _
  even := rfl
  inArea := by cases id <;> decide
  room := Nat.zero_le _

theorem ringsCore : KeptCore fun s => RingsSafe s.port where
  other h _ _ _ _ port := by rw [port]; exact h
  port h _ rings := rings h
  seq h _ _ := h
  mode c q h _ _ := stage_rings _ h
  modeSwap c q h _ := requestSwap_rings (stage_rings _ h)
  faults h _ _ := h
  clear k h := by
    simp only [clearKind, notifyClear_keeps]
    exact stage_rings _ h
  drive h _ _ _ := h
  tables h _ := h
  reset h reset _ := ⟨reset.event ▸ cleared_ringSafe _, reset.trace ▸ cleared_ringSafe _⟩

/-- Settles O7. -/
theorem ringsStaySafe : Obligations.RingsStaySafe := fun _ _ safe next =>
  Kept.step { ringsCore with unseated := fun k h _ _ _ _ => ringsCore.raise k 0 h } safe next

/-! ### The tables -/

/-- The swap request leaves no commit pending, and what it brings into force was checked. -/
theorem requestSwap_tablesSafe {s t : State} (safe : TablesSafe s) (tables : t.tables = s.tables) :
    TablesSafe (requestSwap t) := by
  refine ⟨?_, fun pending => absurd pending (by simp), fun pending => absurd pending (by simp)⟩
  unfold requestSwap
  split
  case isTrue pending =>
    rw [tables] at pending
    rw [swap_eq]
    dsimp only
    rw [tables]
    exact safe.checked pending
  case isFalse => rw [tables]; exact safe.active

theorem tablesSafe_of_eq {s t : State} (safe : TablesSafe s) (tables : t.tables = s.tables)
    (mode : Resting t.seq.mode → Resting s.seq.mode) : TablesSafe t where
  active := by rw [tables]; exact safe.active
  checked pending := by rw [tables] at pending ⊢; exact safe.checked pending
  settled pending := by
    rw [tables] at pending
    have moving : ¬ Resting s.seq.mode := not_or.2 (safe.settled pending)
    exact not_or.1 fun resting => moving (mode resting)

theorem tablesCore : KeptCore TablesSafe where
  other h seq tables _ _ _ := tablesSafe_of_eq h tables fun resting => by rwa [seq] at resting
  port h _ _ := tablesSafe_of_eq h rfl id
  seq h mode _ := tablesSafe_of_eq h rfl fun resting => by rwa [mode] at resting
  mode c q h _ resting := tablesSafe_of_eq h (by simp) fun left => resting (by simpa using left)
  modeSwap c q h _ := requestSwap_tablesSafe h (by simp)
  faults h _ _ := tablesSafe_of_eq h rfl id
  clear k h := tablesSafe_of_eq h (by simp) fun resting => by simpa using resting
  drive h _ _ _ := tablesSafe_of_eq h rfl id
  tables h kept := kept h
  reset h reset _ := by
    constructor <;> rw [reset.tables]
    · rfl
    · nofun
    · nofun

/-- Settles O8. -/
theorem tablesStaySafe : Obligations.TablesStaySafe := fun _ _ safe next =>
  Kept.step
    { tablesCore with
      unseated := fun k h _ held _ _ => tablesCore.raise k 0 (tablesSafe_of_eq h rfl fun _ => .inr held) } safe next

/-! ### The lock and the fault table -/

theorem lockSafe_of_fits {s : State} (stage : s.drive.stage = .off ↔ s.seq.solenoid = false) (fits : LockFits s.seq) :
    LockSafe s := ⟨stage, fits.dropped, fits.pulled, fits.latch, fits.seated⟩

theorem lockSafe_fits {s : State} (safe : LockSafe s) : LockFits s.seq :=
  ⟨safe.dropped, safe.pulled, safe.latch, safe.seated⟩

theorem lockSafe_of_eq {s t : State} (safe : LockSafe s) (seq : t.seq = s.seq)
    (stage : t.drive.stage = .off ↔ s.drive.stage = .off) : LockSafe t :=
  lockSafe_of_fits (by rw [seq]; exact stage.trans safe.stage) (by rw [seq]; exact (lockSafe_fits safe))

/-- The stage follows the command (R142). -/
theorem command_stage {d : Drive} {before : Bool} (follows : d.stage = .off ↔ before = false) (after : Bool) :
    (d.command before after).stage = .off ↔ after = false := by
  cases before <;> cases after <;> simp_all [Drive.command]

/-- A mode change leaves the lock safe, wherever the pin was before. -/
theorem modeChanged_lockSafe {s : State} (c : ModeCause) {q : Sequencer} (tilt steer : Bool)
    (follows : s.drive.stage = .off ↔ s.seq.solenoid = false) (fits : LockFits q) :
    LockSafe (s.modeChanged c q tilt steer) :=
  lockSafe_of_fits (command_stage follows q.solenoid) fits

theorem notifyClear_stage (k : FaultKind) (s : State) : (notifyClear k s).drive.stage = s.drive.stage := by
  unfold notifyClear
  split
  · rfl
  · split <;> rfl

theorem lockCore : KeptCore LockSafe where
  other h seq _ drive _ _ := lockSafe_of_eq h seq (by rw [drive])
  port h _ _ := lockSafe_of_eq h rfl Iff.rfl
  seq h _ fits := lockSafe_of_fits (command_stage h.stage _) (fits (lockSafe_fits h))
  mode c q h fits _ := modeChanged_lockSafe c _ _ h.stage fits
  modeSwap c q h fits :=
    lockSafe_of_eq (modeChanged_lockSafe c q.mode.tiltWanted q.mode.steerWanted h.stage fits) (by simp) (by simp)
  faults h _ _ := lockSafe_of_eq h rfl Iff.rfl
  clear k h := lockSafe_of_eq h (by simp) (by simp [clearKind, notifyClear_stage])
  drive h stage _ _ := lockSafe_of_eq h rfl stage
  tables h _ := lockSafe_of_eq h rfl Iff.rfl
  reset h reset _ := by
    obtain ⟨lke, lkr, lrq, lke_open, lkr_open, seq⟩ := reset.seq
    obtain ⟨period, drive⟩ := reset.drive
    refine lockSafe_of_fits ?_ ?_ <;> rw [seq]
    · rw [drive]; exact iff_of_true rfl rfl
    · exact ⟨fun _ => rfl, nofun, nofun, nofun⟩

/-- A clear puts the policy in force and leaves the kind CLEAR (R154). -/
theorem clearedByHost_faultsSafe {m : FaultMonitor} (k : FaultKind) (safe : FaultsSafe m) :
    FaultsSafe (m.put k (m.get k).clearedByHost) := by
  have record : ∀ j, (m.put k (m.get k).clearedByHost).get j =
      if j = k then (m.get k).clearedByHost else m.get j := by
    intro j
    by_cases h : j = k
    · rw [h, get_put_same, if_pos rfl]
    · rw [get_put_ne _ _ h, if_neg h]
  refine ⟨fun j => ?policy, fun j => ?reaction, fun j lasting => ?momentary⟩ <;> rw [record] <;> split
  case policy.isTrue h => rw [h]; exact safe.policy k
  case policy.isFalse => exact safe.policy j
  case reaction.isTrue h => rw [h]; exact safe.policy k
  case reaction.isFalse => exact safe.reaction j
  case momentary.isTrue => exact nofun
  case momentary.isFalse => exact safe.momentary j lasting

theorem cleared_faultsSafe (kept : Retained) : FaultsSafe (.cleared kept) := by
  refine ⟨fun k => ?_, fun k => ?_, fun k _ => ?_⟩ <;> rw [cleared_get]
  · cases k <;> decide
  · cases k <;> decide
  · exact nofun

theorem faultsCore : KeptCore fun s => FaultsSafe s.faults where
  other h _ _ _ faults _ := by rw [faults]; exact h
  port h _ _ := h
  seq h _ _ := h
  mode c q h _ _ := by simpa using h
  modeSwap c q h _ := by simpa using h
  faults h kept _ := kept h
  clear k h := by rw [clearKind_faults]; exact clearedByHost_faultsSafe k h
  drive h _ _ _ := h
  tables h _ := h
  reset h reset _ := by obtain ⟨kept, faults⟩ := reset.faults; rw [faults]; exact cleared_faultsSafe kept

theorem KeptCore.and {P Q : State → Prop} (K : KeptCore P) (L : KeptCore Q) : KeptCore fun s => P s ∧ Q s where
  other h a b c d e := ⟨K.other h.1 a b c d e, L.other h.2 a b c d e⟩
  port h a b := ⟨K.port h.1 a b, L.port h.2 a b⟩
  seq h a b := ⟨K.seq h.1 a b, L.seq h.2 a b⟩
  mode c _ h a b := ⟨K.mode c h.1 a b, L.mode c h.2 a b⟩
  modeSwap c _ h a := ⟨K.modeSwap c h.1 a, L.modeSwap c h.2 a⟩
  faults h a b := ⟨K.faults h.1 a b, L.faults h.2 a b⟩
  clear k h := ⟨K.clear k h.1, L.clear k h.2⟩
  drive h a b c := ⟨K.drive h.1 a b c, L.drive h.2 a b c⟩
  tables h a := ⟨K.tables h.1 a, L.tables h.2 a⟩
  reset h a b := ⟨K.reset h.1 a b, L.reset h.2 a b⟩

theorem eq_safe_of_code_le {r : Reaction} (h : Reaction.safe.code ≤ r.code) : r = .safe := by
  cases r <;> first | rfl | exact absurd h (by decide)

/-- A raise takes the kind's policy as its reaction (R147). -/
theorem raised_effective (momentary : Bool) (n : Nat) (r : FaultRecord) :
    (r.raised momentary n).effective = r.policyReaction := rfl

/-- A raise of a kind whose policy is SAFE, whole (R147). -/
theorem raise_of_safe {s : State} {k : FaultKind} (policy : (s.faults.get k).policyReaction = .safe) {n : Nat} :
    raise k n s =
      let r := (s.faults.get k).raised k.momentary n
      assertLine s.faults.fltnActive .safe
        (putFault k r.startAck (safeRequest k n (stageFault k r (putFault k r s)))) := by
  unfold raise
  dsimp only
  rw [raised_effective, policy]

/-- A raise of a kind whose policy is not SAFE, whole (R147). -/
theorem raise_of_not_safe {s : State} {k : FaultKind} (policy : (s.faults.get k).policyReaction ≠ .safe) {n : Nat} :
    raise k n s =
      let r := (s.faults.get k).raised k.momentary n
      assertLine s.faults.fltnActive (s.faults.get k).policyReaction
        (putFault k r.startAck (stageFault k r (putFault k r s))) := by
  unfold raise
  dsimp only
  rw [raised_effective]
  cases h : (s.faults.get k).policyReaction with
  | safe => exact absurd h policy
  | report | degrade => rfl

/-- In HELD a raise of a kind whose policy is SAFE enters SAFE, so the lock is safe after it even where the pin has
just left its seat (R22, R24). -/
theorem raise_lockSafe_of_held {s : State} (k : FaultKind) (policy : (s.faults.get k).policyReaction = .safe)
    (held : s.seq.mode = .held) (follows : s.drive.stage = .off ↔ s.seq.solenoid = false) :
    LockSafe (raise k 0 s) := by
  have entered : ∀ u : State, u.seq = s.seq → u.drive = s.drive → LockSafe (safeRequest k 0 u) := by
    intro u seq drive
    rw [safeRequest, seq, held]
    dsimp only
    unfold enterSafe
    dsimp only
    rw [changeMode_eq]
    refine lockSafe_of_eq (modeChanged_lockSafe .fault _ _ ?follows ?fits) rfl Iff.rfl
    case follows => rw [drive, seq]; exact follows
    case fits => exact ⟨nofun, nofun, fun _ => rfl, nofun⟩
  rw [raise_of_safe policy]
  refine lockSafe_of_eq (entered (stageFault k ((s.faults.get k).raised k.momentary 0)
    (putFault k ((s.faults.get k).raised k.momentary 0) s)) ?_ ?_) ?_ ?_ <;> simp

/-- Settles O5: both halves are kept by every update, and where the pin leaves its seat in HELD the floor makes the
raise enter SAFE. -/
theorem lockAndFaultsStaySafe : Obligations.LockAndFaultsStaySafe := fun s t lock faults next =>
  Kept.step (P := fun s => LockSafe s ∧ FaultsSafe s.faults)
    { lockCore.and faultsCore with
      unseated := fun {s q} k h floor held mode solenoid => by
        have policy := h.2.policy k
        rw [floor] at policy
        refine ⟨raise_lockSafe_of_held k (eq_safe_of_code_le policy) mode ?_, faultsCore.raise k 0 h.2⟩
        rw [solenoid]
        exact h.1.stage } ⟨lock, faults⟩ next

/-! ### The bridges -/

/-- A channel that is given a wanted state (Table 8-3): TRIPPED and wanted OFF only while its kind is not CLEAR. -/
theorem given_safe {c : Channel} (safe : ChannelSafe c) (wanted kindClear : Bool) :
    ChannelSafe (c.given wanted kindClear) ∧ (c.given wanted kindClear).wanted = wanted ∧
      ((c.given wanted kindClear).state = .tripped → wanted = false → kindClear = false) := by
  obtain ⟨duty, applied, integrator, quiet, on, driven⟩ := safe
  cases wanted with
  | true =>
    rw [given_wantedOn]
    split
    case isTrue => exact ⟨⟨Nat.zero_le _, Nat.zero_le _, Nat.zero_le _, nofun, fun _ => rfl, fun _ => nofun⟩, rfl, nofun⟩
    case isFalse driving => exact ⟨⟨duty, applied, integrator, quiet, fun _ => rfl, fun _ => driving⟩, rfl, nofun⟩
  | false =>
    unfold Channel.given
    rw [if_neg nofun]
    split
    case isTrue =>
      exact ⟨⟨Nat.zero_le _, Nat.zero_le _, integrator, fun _ => ⟨rfl, rfl⟩, nofun, nofun⟩, rfl, nofun⟩
    case isFalse stays =>
      obtain ⟨notOn, latched⟩ := not_or.1 stays
      refine ⟨⟨duty, applied, integrator, quiet, fun on => absurd on notOn, nofun⟩, rfl, fun tripped _ => ?_⟩
      change c.state = .tripped at tripped
      simpa [tripped] using latched

/-- A channel that takes the notice of its kind's clear (R134). -/
theorem clearNotice_safe {c : Channel} (safe : ChannelSafe c) :
    ChannelSafe c.clearNotice ∧ c.clearNotice.wanted = c.wanted ∧
      (c.clearNotice.state = .tripped → c.clearNotice.wanted = true) := by
  unfold Channel.clearNotice
  split
  case h_1 unwanted =>
    exact ⟨⟨Nat.zero_le _, Nat.zero_le _, safe.integrator, fun _ => ⟨rfl, rfl⟩, nofun,
      fun wanted => absurd (unwanted.symm.trans wanted) (by decide)⟩, rfl, nofun⟩
  case h_2 wanted => exact ⟨safe, rfl, fun _ => wanted⟩
  case h_3 off => exact ⟨safe, rfl, fun tripped => absurd (off.symm.trans tripped) (by decide)⟩
  case h_4 on => exact ⟨safe, rfl, fun tripped => absurd (on.symm.trans tripped) (by decide)⟩

/-- The bridges stay safe while the channels and the mode stay and no kind becomes CLEAR. -/
theorem bridgesSafe_of_eq {s t : State} (safe : BridgesSafe s) (tilt : t.drive.tilt = s.drive.tilt)
    (steer : t.drive.steer = s.drive.steer) (mode : t.seq.mode = s.seq.mode)
    (kinds : ∀ k, (t.faults.get k).state = .clear → (s.faults.get k).state = .clear) : BridgesSafe t := by
  constructor
  · rw [tilt]; exact safe.tilt
  · rw [steer]; exact safe.steer
  · rw [tilt, mode]; exact safe.tiltWanted
  · rw [steer, mode]; exact safe.steerWanted
  · rw [tilt]; exact fun tripped unwanted clear => safe.tiltTripped tripped unwanted (kinds _ clear)
  · rw [steer]; exact fun tripped unwanted clear => safe.steerTripped tripped unwanted (kinds _ clear)

theorem command_channels (d : Drive) (before after : Bool) :
    (d.command before after).tilt = d.tilt ∧ (d.command before after).steer = d.steer := by
  cases before <;> cases after <;> exact ⟨rfl, rfl⟩

theorem modeChanged_bridgesSafe {s : State} (safe : BridgesSafe s) (c : ModeCause) (q : Sequencer) :
    BridgesSafe (s.modeChanged c q q.mode.tiltWanted q.mode.steerWanted) := by
  obtain ⟨tilt, tiltWanted, tiltTripped⟩ := given_safe safe.tilt q.mode.tiltWanted
    ((s.faults.get .tiltOvercurrent).state == .clear)
  obtain ⟨steer, steerWanted, steerTripped⟩ := given_safe safe.steer q.mode.steerWanted
    ((s.faults.get .steerOvercurrent).state == .clear)
  refine ⟨tilt, steer, tiltWanted, steerWanted, fun tripped unwanted => ?_, fun tripped unwanted => ?_⟩
  · simpa using tiltTripped tripped (tiltWanted ▸ unwanted)
  · simpa using steerTripped tripped (steerWanted ▸ unwanted)

/-- A clear of an over-current kind lets its TRIPPED, unwanted channel go in the same event (R134, R154). -/
theorem clearKind_bridgesSafe {s : State} (k : FaultKind) (safe : BridgesSafe s) : BridgesSafe (clearKind k s) := by
  have others : ∀ j, j ≠ k → ((clearKind k s).faults.get j).state = (s.faults.get j).state := fun j other => by
    rw [clearKind_faults, get_put_ne _ _ other]
  have mode : (clearKind k s).seq.mode = s.seq.mode := by simp
  obtain ⟨tilt, tiltWanted, tiltTripped⟩ := clearNotice_safe safe.tilt
  obtain ⟨steer, steerWanted, steerTripped⟩ := clearNotice_safe safe.steer
  by_cases isTilt : k = .tiltOvercurrent
  · subst isTilt
    have drive : (clearKind .tiltOvercurrent s).drive = { s.drive with tilt := s.drive.tilt.clearNotice } := by
      simp [clearKind, notifyClear]
    constructor <;> rw [drive] <;> dsimp only
    · exact tilt
    · exact safe.steer
    · rw [tiltWanted, mode]; exact safe.tiltWanted
    · rw [mode]; exact safe.steerWanted
    · exact fun tripped unwanted => absurd (tiltTripped tripped) (by simp [unwanted])
    · rw [others _ (by decide)]; exact safe.steerTripped
  · by_cases isSteer : k = .steerOvercurrent
    · subst isSteer
      have drive : (clearKind .steerOvercurrent s).drive = { s.drive with steer := s.drive.steer.clearNotice } := by
        simp [clearKind, notifyClear]
      constructor <;> rw [drive] <;> dsimp only
      · exact safe.tilt
      · exact steer
      · rw [mode]; exact safe.tiltWanted
      · rw [steerWanted, mode]; exact safe.steerWanted
      · rw [others _ (by decide)]; exact safe.tiltTripped
      · exact fun tripped unwanted => absurd (steerTripped tripped) (by simp [unwanted])
    · have drive : (clearKind k s).drive = s.drive := by
        simp [clearKind, notifyClear, if_neg isTilt, if_neg isSteer]
      constructor <;> rw [drive]
      · exact safe.tilt
      · exact safe.steer
      · rw [mode]; exact safe.tiltWanted
      · rw [mode]; exact safe.steerWanted
      · rw [others _ (Ne.symm isTilt)]; exact safe.tiltTripped
      · rw [others _ (Ne.symm isSteer)]; exact safe.steerTripped

/-- A channel that moves keeps the reason for which it may stand TRIPPED: an ON one was wanted ON. -/
theorem ChannelMoves.unwanted {c c' : Channel} (moves : ChannelMoves c c') (safe : ChannelSafe c)
    (tripped : c'.state = .tripped) (unwanted : c'.wanted = false) : c.state = .tripped ∧ c.wanted = false := by
  rw [moves.wanted] at unwanted
  refine ⟨(moves.tripped tripped).resolve_left fun on => ?_, unwanted⟩
  exact absurd (safe.wanted on) (by simp [unwanted])

theorem cleared_channelSafe : ChannelSafe .cleared :=
  ⟨by decide, by decide, by decide, fun _ => ⟨rfl, rfl⟩, nofun, nofun⟩

theorem bridgesCore : KeptCore BridgesSafe where
  other h seq _ drive faults _ := bridgesSafe_of_eq h (by rw [drive]) (by rw [drive]) (by rw [seq]) fun k => by rw [faults]; exact id
  port h _ _ := bridgesSafe_of_eq h rfl rfl rfl fun _ => id
  seq h mode _ := bridgesSafe_of_eq h (command_channels _ _ _).1 (command_channels _ _ _).2 mode fun _ => id
  mode c q h _ _ := modeChanged_bridgesSafe h c q
  modeSwap c q h _ := bridgesSafe_of_eq (modeChanged_bridgesSafe h c q) (by simp) (by simp) (by simp) fun k => by simp
  faults h _ kinds := bridgesSafe_of_eq h rfl rfl rfl kinds
  clear k h := clearKind_bridgesSafe k h
  drive h _ tilt steer :=
    { tilt := tilt.safe h.tilt
      steer := steer.safe h.steer
      tiltWanted := tilt.wanted.trans h.tiltWanted
      steerWanted := steer.wanted.trans h.steerWanted
      tiltTripped := fun tripped unwanted =>
        h.tiltTripped (tilt.unwanted h.tilt tripped unwanted).1 (tilt.unwanted h.tilt tripped unwanted).2
      steerTripped := fun tripped unwanted =>
        h.steerTripped (steer.unwanted h.steer tripped unwanted).1 (steer.unwanted h.steer tripped unwanted).2 }
  tables h _ := bridgesSafe_of_eq h rfl rfl rfl fun _ => id
  reset h reset _ := by
    obtain ⟨lke, lkr, lrq, lke_open, lkr_open, seq⟩ := reset.seq
    obtain ⟨period, drive⟩ := reset.drive
    constructor <;> rw [drive]
    · exact cleared_channelSafe
    · exact cleared_channelSafe
    · rw [seq]; rfl
    · rw [seq]; rfl
    · nofun
    · nofun

/-- Settles O6. -/
theorem bridgesStaySafe : Obligations.BridgesStaySafe := fun _ _ safe next =>
  Kept.step
    { bridgesCore with
      unseated := fun k h _ held mode _ =>
        bridgesCore.raise k 0 (bridgesSafe_of_eq h rfl rfl (mode.trans held.symm) fun _ => id) } safe next

end Sys2Proof.Proofs

/-! Every command completes, and the step on an empty queue: the commands that are due are those whose time has
come, and the one the free value picks is one of them. -/

namespace Sys2Proof.Proofs
open Sys2Proof.Machine

/-! ### What a command leaves of the model's own fields -/

/-- The queue, the model's clock and the level of RSTN stay. -/
def KeepsClock (s t : State) : Prop := t.pending = s.pending ∧ t.ticks = s.ticks ∧ t.rstn = s.rstn

theorem beginSoft_keepsClock (s : State) : KeepsClock s (beginSoft s) := ⟨rfl, rfl, rfl⟩

theorem completeAccess_keepsClock (s : State) : KeepsClock s (completeAccess s) := by
  simp [KeepsClock]

theorem serveElsewhere_keepsClock (place : Place) (op : AccessOp) (s : State) :
    KeepsClock s (serveElsewhere place op s) := by
  unfold serveElsewhere KeepsClock
  split
  case h_12 w =>
    unfold writeXctrl
    dsimp only
    split
    · exact ⟨rfl, rfl, rfl⟩
    · exact beginSoft_keepsClock _
  all_goals simp [writeXcause, writeXcauseEn]

theorem KeepsClock.trans {s t u : State} (h : KeepsClock s t) (h' : KeepsClock t u) : KeepsClock s u :=
  ⟨h'.1.trans h.1, h'.2.1.trans h.2.1, h'.2.2.trans h.2.2⟩

theorem access_keepsClock (addr : Word) (op : AccessOp) (s : State) : KeepsClock s (access addr op s) := by
  unfold access
  split
  case h_1 =>
    unfold accessRunning
    dsimp only
    split
    · exact (completeAccess_keepsClock s).trans (by simp [KeepsClock, settle])
    · exact (completeAccess_keepsClock s).trans (serveElsewhere_keepsClock _ _ _)
  all_goals simp [KeepsClock]

theorem beginAccess_keepsClock (addr : Word) (op : AccessOp) (s : State) :
    KeepsClock s (beginAccess addr op s) := by
  unfold beginAccess
  split
  case h_1 =>
    unfold beginRunning
    dsimp only
    split
    · exact (completeAccess_keepsClock s).trans (by simp [KeepsClock, settle])
    · exact (completeAccess_keepsClock s).trans (serveElsewhere_keepsClock _ _ _)
  all_goals simp [KeepsClock]

/-- Every command completes and leaves the queue and the clock, and all but the pin reset and the end of a reset
leave RSTN too. -/
theorem exec_completes (c : Instr) (s : State) :
    ∃ t, exec c s = .next t ∧ t.pending = s.pending ∧ t.ticks = s.ticks ∧
      (c ≠ .pinReset → c ≠ .resetEnd → t.rstn = s.rstn) := by
  have quiet : ∀ t, exec c s = .next t → KeepsClock s t → ∃ t, exec c s = .next t ∧ t.pending = s.pending ∧
      t.ticks = s.ticks ∧ (c ≠ .pinReset → c ≠ .resetEnd → t.rstn = s.rstn) :=
    fun t next keeps => ⟨t, next, keeps.1, keeps.2.1, fun _ _ => keeps.2.2⟩
  cases c with
  | powerOnReset => exact quiet _ rfl ⟨rfl, rfl, rfl⟩
  | pinReset =>
    refine ⟨_, rfl, ?_, ?_, fun pin => absurd rfl pin⟩ <;> split <;> rfl
  | resetEnd =>
    refine ⟨_, rfl, ?_, ?_, fun _ ends => absurd rfl ends⟩ <;> split <;> rfl
  | softReset w | setPortMode w | xstatHoldRead | xcauseWrite w | registerWrite a w | hostScratchAccess a op =>
    exact quiet _ rfl (access_keepsClock _ _ s)
  | hostGuardedAccess e =>
    refine quiet _ rfl ?_
    cases e with
    | whole a op => exact access_keepsClock a op s
    | begins a op => exact beginAccess_keepsClock a op s
    | completes => exact completeAccess_keepsClock s
  | exchangeTimerExpiry | contactAccepted _ | releaseLimitExpiry | engageLimitExpiry | roundTimerExpiry
  | pollComplete _ _ | passThroughComplete _ _ | sclHoldTimeout _ _ | busClearComplete _ _ | injectedTrigger
  | normalConversionComplete _ | injectedComplete _ _ _ | pwmPeriodStart | ackTimerExpiry _ | windowOpen
  | computationComplete | solenoidPullInExpiry =>
    refine quiet _ rfl ?_
    split <;> simp [KeepsClock]
  | deferralLimitExpiry | controlCycleExpiry _ | wheelPulse _ _ =>
    refine quiet _ rfl ?_
    split <;> (try dsimp only) <;> (try split) <;> simp [KeepsClock]
  | contactLineChange _ _ | releaseHoldOffExpiry | fltnMinTimerExpiry => exact quiet _ rfl ⟨rfl, rfl, rfl⟩

/-! ### What is due -/

theorem mem_dueIf {b : Bool} {i j : Instr} : i ∈ dueIf b j ↔ b = true ∧ i = j := by
  cases b <;> simp [dueIf]

theorem expired_iff (t : Timer) : expired t = true ↔ t = some 0 := by simp [expired]

theorem mem_faultKinds (k : FaultKind) : k ∈ FaultKind.all := by cases k <;> decide

theorem mem_lockLimitDue {s : State} {i : Instr} :
    i ∈ s.lockLimitDue ↔ s.seq.lockLimit = some 0 ∧
      (s.seq.mode = .releasing ∧ i = .releaseLimitExpiry ∨ s.seq.mode = .engaging ∧ i = .engageLimitExpiry) := by
  unfold State.lockLimitDue
  cases s.seq.mode <;> simp [mem_dueIf, expired_iff]

theorem computationDue_iff (s : State) :
    s.computationDue = true ↔
      ∃ c, s.law.computing = some c ∧ min 100 (Config.computationTime s.ticks) ≤ c.age := by
  unfold State.computationDue
  cases s.law.computing <;> simp

theorem windowDue_iff (s : State) :
    s.windowDue = true ↔ s.port.window = .opened ∧ min 80 (Config.windowTime s.ticks) ≤ s.port.windowAge := by
  unfold State.windowDue
  cases s.port.window <;> simp

theorem mem_due {s : State} {i : Instr} :
    i ∈ s.due ↔ s.phase = .running ∧ (i ∈ s.dueControl ∨ i ∈ s.duePower ∨ i ∈ s.dueFaults) ∨
      s.phase = .soft 0 ∧ i = .resetEnd := by
  unfold State.due
  cases s.phase <;> simp [mem_dueIf]

/-- The commands whose time has come in a running part, by the command. -/
def RunsOut (s : State) : Instr → Prop
  | .exchangeTimerExpiry => s.port.timer = some 0
  | .deferralLimitExpiry => s.port.deferral = some 0
  | .windowOpen => s.port.window = .opened ∧ min 80 (Config.windowTime s.ticks) ≤ s.port.windowAge
  | .controlCycleExpiry now => s.law.timer = some 0 ∧ now = s.wheels.counter
  | .computationComplete => ∃ c, s.law.computing = some c ∧ min 100 (Config.computationTime s.ticks) ≤ c.age
  | .contactAccepted l => (s.seq.contact l).debounce = some 0
  | .releaseLimitExpiry => s.seq.mode = .releasing ∧ s.seq.lockLimit = some 0
  | .engageLimitExpiry => s.seq.mode = .engaging ∧ s.seq.lockLimit = some 0
  | .releaseHoldOffExpiry => s.seq.holdOff = some 0
  | .roundTimerExpiry => s.bus.timer = some 0
  | .normalConversionComplete raw =>
      s.conv.normal = some 0 ∧ raw = Config.analogRaw s.ticks s.conv.position.input
  | .injectedTrigger => s.conv.centre = some 0
  | .injectedComplete tilt steer channel =>
      s.conv.injected = some 0 ∧ tilt = Config.analogRaw s.ticks 6 ∧ steer = Config.analogRaw s.ticks 7 ∧
        channel = s.firstChannel
  | .pwmPeriodStart => s.drive.period = some 0
  | .solenoidPullInExpiry => s.drive.pullIn = some 0
  | .ackTimerExpiry k => (s.faults.get k).ackTimer = some 0
  | .fltnMinTimerExpiry => s.faults.minTimer = some 0
  | _ => False

theorem mem_dueControl {s : State} {i : Instr} :
    i ∈ s.dueControl ↔
      s.port.timer = some 0 ∧ i = .exchangeTimerExpiry ∨ s.port.deferral = some 0 ∧ i = .deferralLimitExpiry ∨
      s.windowDue = true ∧ i = .windowOpen ∨ s.law.timer = some 0 ∧ i = .controlCycleExpiry s.wheels.counter ∨
      s.computationDue = true ∧ i = .computationComplete ∨
      s.seq.lke.debounce = some 0 ∧ i = .contactAccepted .lke ∨
      s.seq.lkr.debounce = some 0 ∧ i = .contactAccepted .lkr ∨
      s.seq.lrq.debounce = some 0 ∧ i = .contactAccepted .lrq ∨ i ∈ s.lockLimitDue ∨
      s.seq.holdOff = some 0 ∧ i = .releaseHoldOffExpiry := by
  simp only [State.dueControl, List.mem_append, mem_dueIf, expired_iff, or_assoc]

theorem mem_duePower {s : State} {i : Instr} :
    i ∈ s.duePower ↔
      s.bus.timer = some 0 ∧ i = .roundTimerExpiry ∨
      s.conv.normal = some 0 ∧
        i = .normalConversionComplete (Config.analogRaw s.ticks s.conv.position.input) ∨
      s.conv.centre = some 0 ∧ i = .injectedTrigger ∨
      s.conv.injected = some 0 ∧
        i = .injectedComplete (Config.analogRaw s.ticks 6) (Config.analogRaw s.ticks 7) s.firstChannel ∨
      s.drive.period = some 0 ∧ i = .pwmPeriodStart ∨ s.drive.pullIn = some 0 ∧ i = .solenoidPullInExpiry := by
  simp only [State.duePower, List.mem_append, mem_dueIf, expired_iff, or_assoc]

theorem mem_dueFaults {s : State} {i : Instr} :
    i ∈ s.dueFaults ↔ (∃ k, (s.faults.get k).ackTimer = some 0 ∧ i = .ackTimerExpiry k) ∨
      s.faults.minTimer = some 0 ∧ i = .fltnMinTimerExpiry := by
  simp only [State.dueFaults, List.mem_append, List.mem_flatMap, mem_dueIf, expired_iff, mem_faultKinds, true_and]

theorem runsOut_of_mem {s : State} {i : Instr} (due : i ∈ s.dueControl ∨ i ∈ s.duePower ∨ i ∈ s.dueFaults) :
    RunsOut s i := by
  rw [mem_dueControl, mem_duePower, mem_dueFaults, mem_lockLimitDue, computationDue_iff, windowDue_iff] at due
  rcases due with control | power | faults
  · rcases control with ⟨out, rfl⟩ | ⟨out, rfl⟩ | ⟨out, rfl⟩ | ⟨out, rfl⟩ | ⟨out, rfl⟩ | ⟨out, rfl⟩ | ⟨out, rfl⟩ |
      ⟨out, rfl⟩ | ⟨out, ⟨mode, rfl⟩ | ⟨mode, rfl⟩⟩ | ⟨out, rfl⟩
    case inr.inr.inr.inl => exact ⟨out, rfl⟩
    case inr.inr.inr.inr.inr.inr.inr.inr.inl.inl => exact ⟨mode, out⟩
    case inr.inr.inr.inr.inr.inr.inr.inr.inl.inr => exact ⟨mode, out⟩
    all_goals exact out
  · rcases power with ⟨out, rfl⟩ | ⟨out, rfl⟩ | ⟨out, rfl⟩ | ⟨out, rfl⟩ | ⟨out, rfl⟩ | ⟨out, rfl⟩
    case inr.inl => exact ⟨out, rfl⟩
    case inr.inr.inr.inl => exact ⟨out, rfl, rfl, rfl⟩
    all_goals exact out
  · rcases faults with ⟨k, out, rfl⟩ | ⟨out, rfl⟩ <;> exact out

theorem mem_of_runsOut {s : State} {i : Instr} (out : RunsOut s i) :
    i ∈ s.dueControl ∨ i ∈ s.duePower ∨ i ∈ s.dueFaults := by
  rw [mem_dueControl, mem_duePower, mem_dueFaults]
  cases i with
  | exchangeTimerExpiry => exact .inl (.inl ⟨out, rfl⟩)
  | deferralLimitExpiry => exact .inl (.inr (.inl ⟨out, rfl⟩))
  | windowOpen => exact .inl (.inr (.inr (.inl ⟨(windowDue_iff s).2 out, rfl⟩)))
  | controlCycleExpiry now =>
    obtain ⟨out, rfl⟩ := out
    exact .inl (.inr (.inr (.inr (.inl ⟨out, rfl⟩))))
  | computationComplete =>
    exact .inl (.inr (.inr (.inr (.inr (.inl ⟨(computationDue_iff s).2 out, rfl⟩)))))
  | contactAccepted l =>
    refine .inl (.inr (.inr (.inr (.inr (.inr ?_)))))
    cases l with
    | lke => exact .inl ⟨out, rfl⟩
    | lkr => exact .inr (.inl ⟨out, rfl⟩)
    | lrq => exact .inr (.inr (.inl ⟨out, rfl⟩))
  | releaseLimitExpiry =>
    have listed := mem_lockLimitDue.2 ⟨out.2, .inl ⟨out.1, rfl⟩⟩
    exact .inl (.inr (.inr (.inr (.inr (.inr (.inr (.inr (.inr (.inl listed)))))))))
  | engageLimitExpiry =>
    have listed := mem_lockLimitDue.2 ⟨out.2, .inr ⟨out.1, rfl⟩⟩
    exact .inl (.inr (.inr (.inr (.inr (.inr (.inr (.inr (.inr (.inl listed)))))))))
  | releaseHoldOffExpiry =>
    exact .inl (.inr (.inr (.inr (.inr (.inr (.inr (.inr (.inr (.inr ⟨out, rfl⟩)))))))))
  | roundTimerExpiry => exact .inr (.inl (.inl ⟨out, rfl⟩))
  | normalConversionComplete raw =>
    obtain ⟨out, rfl⟩ := out
    exact .inr (.inl (.inr (.inl ⟨out, rfl⟩)))
  | injectedTrigger => exact .inr (.inl (.inr (.inr (.inl ⟨out, rfl⟩))))
  | injectedComplete tilt steer channel =>
    obtain ⟨out, rfl, rfl, rfl⟩ := out
    exact .inr (.inl (.inr (.inr (.inr (.inl ⟨out, rfl⟩)))))
  | pwmPeriodStart => exact .inr (.inl (.inr (.inr (.inr (.inr (.inl ⟨out, rfl⟩))))))
  | solenoidPullInExpiry => exact .inr (.inl (.inr (.inr (.inr (.inr (.inr ⟨out, rfl⟩))))))
  | ackTimerExpiry k => exact .inr (.inr (.inl ⟨k, out, rfl⟩))
  | fltnMinTimerExpiry => exact .inr (.inr (.inr ⟨out, rfl⟩))
  | _ => exact out.elim

/-- The command picked is one of those due. -/
theorem pick_mem (choice : Nat) (i : Instr) (others : List Instr) : pick choice i others ∈ i :: others := by
  have within : choice % (others.length + 1) < (i :: others).length := Nat.mod_lt _ (Nat.succ_pos _)
  unfold pick
  rw [List.getD_eq_getElem _ _ within]
  exact List.getElem_mem within

theorem idle_of_due {s : State} {i : Instr} (due : i ∈ s.due) : ∃ j ∈ s.due, idle s = exec j s := by
  unfold idle
  split
  case h_1 none => simp [none] at due
  case h_2 first others list => exact ⟨_, list ▸ pick_mem _ first others, rfl⟩

theorem idle_of_nothing_due {s : State} (nothing : ∀ i, i ∉ s.due) : idle s = .next (passMicrosecond s) := by
  unfold idle
  rw [List.eq_nil_iff_forall_not_mem.2 nothing]

theorem elapse_eq (t : Timer) : elapse t = t.map (· - 1) := by cases t <;> rfl

theorem faults_elapse_get (m : FaultMonitor) (k : FaultKind) : m.elapse.get k = (m.get k).elapse := by
  simp [FaultMonitor.get, FaultMonitor.elapse, tableMap_get]

/-- 1 µs in a running part, its timers in the words of the statement. -/
theorem elapseRunning_eq (s : State) :
    s.elapseRunning = { s with
      seq := { s.seq with lockLimit := s.seq.lockLimit.map (· - 1), holdOff := s.seq.holdOff.map (· - 1),
                          lke := { s.seq.lke with debounce := s.seq.lke.debounce.map (· - 1) },
                          lkr := { s.seq.lkr with debounce := s.seq.lkr.debounce.map (· - 1) },
                          lrq := { s.seq.lrq with debounce := s.seq.lrq.debounce.map (· - 1) } }
      law := { s.law with timer := s.law.timer.map (· - 1),
                          computing := s.law.computing.map fun c => { c with age := c.age + 1 } }
      bus := { s.bus with timer := s.bus.timer.map (· - 1) }
      wheels := { s.wheels with counter := s.wheels.counter + 1 }
      conv := { s.conv with normal := s.conv.normal.map (· - 1), centre := s.conv.centre.map (· - 1),
                            injected := s.conv.injected.map (· - 1) }
      drive := { s.drive with period := s.drive.period.map (· - 1), pullIn := s.drive.pullIn.map (· - 1) }
      faults := s.faults.elapse
      port := { s.port with
        timer := s.port.timer.map (· - 1), deferral := s.port.deferral.map (· - 1)
        windowAge := if s.port.window = .opened then s.port.windowAge + 1 else s.port.windowAge } } := by
  have age : (match s.port.window with
      | .opened => s.port.windowAge + 1 | .closed => s.port.windowAge | .deferred => s.port.windowAge) =
      if s.port.window = .opened then s.port.windowAge + 1 else s.port.windowAge := by
    cases s.port.window <;> rfl
  have computing : (match s.law.computing with
      | some c => some { c with age := c.age + 1 } | none => none) =
      s.law.computing.map fun c => { c with age := c.age + 1 } := by
    cases s.law.computing <;> rfl
  simp only [← elapse_eq, ← age, ← computing]
  rfl

/-- Settles O2: the commands due are the list that an idle step picks from, and `elapseRunning_eq` says what 1 µs
does. -/
theorem commandsAndIdleComplete : Obligations.CommandsAndIdleComplete := by
  refine ⟨exec_completes, fun s empty => ?_⟩
  intro ranOut raws input first runsOut due less held later
  have listed : ∀ i, i ∈ s.due ↔ due i := by
    intro i
    rw [mem_due, show _ ↔ RunsOut s i from ⟨runsOut_of_mem, mem_of_runsOut⟩]
    cases i <;> rfl
  have stepped : step s = idle s := by unfold step; rw [empty]
  rw [stepped]
  refine ⟨fun i isDue => ?taken, fun nothing => ?passed⟩
  case taken =>
    obtain ⟨j, jDue, acts⟩ := idle_of_due ((listed i).2 isDue)
    exact ⟨j, (listed j).1 jDue, acts⟩
  case passed =>
    refine ⟨_, idle_of_nothing_due fun i isDue => nothing i ((listed i).1 isDue), ?waits, ?soft, ?running⟩
    case waits => rintro (phase | phase) <;> simp only [passMicrosecond, phase, later]
    case soft => intro left phase; simp only [passMicrosecond, phase, later]
    case running =>
      intro phase
      have passed : passMicrosecond s = State.elapseRunning { s with ticks := s.ticks + 1 } := by
        simp only [passMicrosecond, phase]
      rw [passed, elapseRunning_eq]
      refine ⟨rfl, elapse_eq _, rfl, fun k => (faults_elapse_get s.faults k).trans ?_⟩
      rw [FaultRecord.elapse, elapse_eq]

end Sys2Proof.Proofs

/-! The lean map (R33, R34): the lookup is an interpolation along the speed axis of interpolations along the steering
axis, so what holds along one axis is said once. -/

namespace Sys2Proof.Proofs
open Sys2Proof.Machine

/-- The value at `x` of the entries `g`, interpolated along the axis `f` of the breakpoints 0 to `n + 1`. -/
def along (f : Nat → Int) (n : Nat) (x : Int) (g : Nat → Int) : Int :=
  let i := Machine.segment f x n
  blend (g i) (g (i + 1)) (fraction x (f i) (f (i + 1)))

theorem mapTarget_eq_along (b : Bank) (v : Nat) (delta : Int) :
    b.mapTarget v delta =
      along b.speedPoint 6 (clampInt (b.speedPoint 0) (b.speedPoint 7) v) fun i =>
        along b.steerPoint 7 (clampInt (b.steerPoint 0) (b.steerPoint 8) delta) (b.mapAt i) := rfl

/-! ### One axis -/

theorem clampInt_eq_max_min {lo hi : Int} (range : lo ≤ hi) (x : Int) : clampInt lo hi x = max lo (min hi x) := by
  unfold clampInt
  split
  · omega
  · split <;> omega

/-- Where the dividend is not below 0, truncation is rounding down. -/
theorem fraction_eq {x lo hi : Int} (h : lo ≤ x) : fraction x lo hi = (x - lo) * 1024 / (hi - lo) :=
  Int.tdiv_eq_ediv_of_nonneg (by omega)

/-- A fraction lies within 0 and 1024. -/
theorem fraction_bounds {x lo hi : Int} (rising : lo < hi) (h1 : lo ≤ x) (h2 : x ≤ hi) :
    0 ≤ fraction x lo hi ∧ fraction x lo hi ≤ 1024 := by
  rw [fraction_eq h1]
  refine ⟨Int.ediv_nonneg (by omega) (by omega), ?_⟩
  rw [Int.ediv_le_iff_le_mul (by omega)]
  have : (x - lo) * 1024 ≤ (hi - lo) * 1024 := by omega
  omega

theorem blend_zero (a b : Int) : blend a b 0 = a := by
  unfold blend
  rw [mul_zero, rdiv_zero _ (by decide), add_zero]

theorem blend_whole (a b : Int) : blend a b 1024 = b := by
  have exact_ := rdiv_bounds (a := (b - a) * 1024) (lo := b - a) (hi := b - a) (b := 1024) (by decide) le_rfl le_rfl
  unfold blend
  omega

/-- A value on the axis lies in one of its segments. -/
theorem exists_axis_segment {f : Nat → Int} {n : Nat} {x : Int} (low : f 0 ≤ x) (high : x ≤ f (n + 1)) :
    ∃ i ≤ n, f i ≤ x ∧ x ≤ f (i + 1) ∧ (x < f (i + 1) ∨ i = n) := by
  by_contra nowhere
  push Not at nowhere
  have reached : ∀ i ≤ n, f i ≤ x ∧ (i < n → f (i + 1) ≤ x) := by
    intro i hi
    induction i with
    | zero =>
      refine ⟨low, fun h => ?_⟩
      by_contra above
      have := nowhere 0 (by omega) low (by omega)
      omega
    | succ i ih =>
      have here := (ih (by omega)).2 (by omega)
      refine ⟨here, fun h => ?_⟩
      by_contra above
      have := nowhere (i + 1) hi here (by omega)
      omega
  have := nowhere n le_rfl (reached n le_rfl).1 high
  omega

section
variable {f : Nat → Int} {n : Nat} (rising : ∀ i j, i < j → j ≤ n + 1 → f i < f j)
include rising

theorem axis_le {i j : Nat} (h : i ≤ j) (hj : j ≤ n + 1) : f i ≤ f j := by
  rcases Nat.lt_or_eq_of_le h with lt | rfl
  · exact (rising i j lt hj).le
  · exact le_rfl

/-- Rising breakpoints leave one segment for a value. -/
theorem axis_segment {x : Int} {i : Nat} (hi : i ≤ n) (reached : f i ≤ x) (below : x < f (i + 1) ∨ i = n) :
    Machine.segment f x n = i := by
  refine segment_eq hi (.inr reached) fun j hij hj => ?_
  rcases below with below | rfl
  · exact below.trans_le (axis_le rising hij (by omega))
  · omega

theorem along_of_segment {x : Int} {i : Nat} (hi : i ≤ n) (reached : f i ≤ x) (below : x < f (i + 1) ∨ i = n)
    (g : Nat → Int) :
    along f n x g = g i + rdiv ((g (i + 1) - g i) * ((x - f i) * 1024 / (f (i + 1) - f i))) 1024 := by
  rw [along, axis_segment rising hi reached below, blend, fraction_eq reached]

/-- At a breakpoint the value is its entry: from the segment above it, or at the top from the last one's end. -/
theorem along_at {i : Nat} (hi : i ≤ n + 1) (g : Nat → Int) : along f n (f i) g = g i := by
  rcases Nat.lt_or_eq_of_le hi with inside | rfl
  · rw [along, axis_segment rising (i := i) (by omega) le_rfl (.inl (rising _ _ (by omega) (by omega))),
      fraction_eq le_rfl, sub_self, zero_mul, Int.zero_ediv, blend_zero]
  · have width : f (n + 1) - f n ≠ 0 := by have := rising n (n + 1) (by omega) le_rfl; omega
    rw [along, axis_segment rising (i := n) le_rfl (axis_le rising (by omega) le_rfl) (.inr rfl),
      fraction_eq (axis_le rising (by omega) le_rfl), Int.mul_ediv_cancel_left _ width, blend_whole]

theorem along_bounds {x lo hi : Int} (low : f 0 ≤ x) (high : x ≤ f (n + 1)) {g : Nat → Int}
    (entries : ∀ i ≤ n + 1, lo ≤ g i ∧ g i ≤ hi) : lo ≤ along f n x g ∧ along f n x g ≤ hi := by
  obtain ⟨i, hi, reached, below, here⟩ := exists_axis_segment low high
  rw [along, axis_segment rising hi reached here]
  exact interpolation_bounds (by decide) (entries i (by omega)) (entries (i + 1) (by omega))
    (fraction_bounds (rising _ _ (by omega) (by omega)) reached below)

end

/-! ### The two axes of a bank -/

theorem entry_of_lt {α : Type} {n : Nat} (v : Vector α n) {i : Nat} (h : i < n) (d : α) : entry v i d = v[i] := by
  simp [entry, h]

theorem speedPoint_eq (b : Bank) (i : Fin 8) : b.speedPoint i = b.speedAxis[i] := entry_of_lt _ i.isLt _

theorem steerPoint_eq (b : Bank) (j : Fin 9) : b.steerPoint j = b.steerAxis[j] := entry_of_lt _ j.isLt _

theorem mapAt_eq (b : Bank) (i : Fin 8) (j : Fin 9) : b.mapAt i j = b.leanMap[i][j] := by
  rw [Bank.mapAt, entry_of_lt _ i.isLt, entry_of_lt _ j.isLt]
  rfl

theorem speedPoint_rising {b : Bank} (rising : strictlyRising b.speedAxis.toList = true) (i j : Nat) (hij : i < j)
    (hj : j ≤ 6 + 1) : b.speedPoint i < b.speedPoint j := by
  have lt := strictlyRising_getElem_lt rising hij (by simpa using (by omega : j < 8))
  rw [Bank.speedPoint, Bank.speedPoint, entry_of_lt _ (by omega), entry_of_lt _ (by omega)]
  simpa using lt

theorem steerPoint_rising {b : Bank} (rising : strictlyRising b.steerAxis.toList = true) (i j : Nat) (hij : i < j)
    (hj : j ≤ 7 + 1) : b.steerPoint i < b.steerPoint j := by
  have lt := strictlyRising_getElem_lt rising hij (by simpa using (by omega : j < 9))
  rw [Bank.steerPoint, Bank.steerPoint, entry_of_lt _ (by omega), entry_of_lt _ (by omega)]
  simpa using lt

/-- Settles O10: each clause is the one along an axis, taken along both. -/
theorem mapTarget : Obligations.MapTarget := by
  intro b v delta speedRising steerRising speed steer map x y toward
  have rs := speedPoint_rising speedRising
  have rd := steerPoint_rising steerRising
  have speeds : ∀ i : Fin 8, speed i = b.speedPoint i := fun i => (speedPoint_eq b i).symm
  have steers : ∀ j : Fin 9, steer j = b.steerPoint j := fun j => (steerPoint_eq b j).symm
  have maps : ∀ (i : Fin 8) (j : Fin 9), map i j = b.mapAt i j := fun i j => (mapAt_eq b i j).symm
  have hx : clampInt (b.speedPoint 0) (b.speedPoint 7) v = x :=
    clampInt_eq_max_min (axis_le rs (by omega) (by omega)) _
  have hy : clampInt (b.steerPoint 0) (b.steerPoint 8) delta = y :=
    clampInt_eq_max_min (axis_le rd (by omega) (by omega)) _
  rw [mapTarget_eq_along, hx, hy]
  refine ⟨fun i j reached below reached' below' => ?segment, fun i j atSpeed atSteer => ?grid,
    fun lo hi entries => ?span⟩
  case segment =>
    rw [speeds] at reached below
    rw [steers] at reached' below'
    have row : ∀ k : Nat, along b.steerPoint 7 y (b.mapAt k) = b.mapAt k j +
        rdiv ((b.mapAt k (j + 1) - b.mapAt k j) *
          ((y - b.steerPoint j) * 1024 / (b.steerPoint (j + 1) - b.steerPoint j))) 1024 := fun k =>
      along_of_segment rd (i := j) (by omega) reached' (below'.imp_right fun h => by rw [h]; rfl) _
    rw [along_of_segment rs (i := i) (by omega) reached (below.imp_right fun h => by rw [h]; rfl), row, row]
    simp only [toward, speeds, steers, maps, Fin.val_castSucc, Fin.val_succ]
  case grid =>
    rw [atSpeed, atSteer, speeds, steers, maps, along_at rs (i := i) (by omega), along_at rd (i := j) (by omega)]
  case span =>
    have xRange := clampInt_bounds (axis_le rs (i := 0) (j := 7) (by omega) (by omega)) v
    have yRange := clampInt_bounds (axis_le rd (i := 0) (j := 8) (by omega) (by omega)) delta
    rw [hx] at xRange
    rw [hy] at yRange
    refine along_bounds rs xRange.1 xRange.2 fun i hi => along_bounds rd yRange.1 yRange.2 fun j hj => ?_
    have bounds := entries ⟨i, by omega⟩ ⟨j, by omega⟩
    rwa [maps] at bounds

end Sys2Proof.Proofs

/-! The tilt torque (R38 to R42): which torque the mode gives, the slew between the clamped torques, and the cut, whose
condition is that the torque has the sign of the lean angle. -/

namespace Sys2Proof.Proofs
open Sys2Proof.Machine

theorem authTorque_of_not_safe {t : Taken} (mode : t.mode ≠ .safe) (phiStar phi phiDot a : Int) :
    authTorque t phiStar phi phiDot a = pdTorque t.bank.tuning (phiStar - phi) phiDot a := by
  unfold authTorque
  split
  · contradiction
  all_goals rfl

/-- The damping torque is opposed to the roll rate (R39). -/
theorem safeTorque_opposed (u : Tuning) (phiDot : Int) : safeTorque u phiDot * phiDot ≤ 0 := by
  unfold safeTorque
  rcases le_total 0 phiDot with forward | backward
  · exact mul_nonpos_of_nonpos_of_nonneg (rdiv_nonpos (by nlinarith) _ (by decide)) forward
  · exact mul_nonpos_of_nonneg_of_nonpos (rdiv_nonneg (by nlinarith) _) backward

/-- The slewed torque lies between the two clamped torques, at the one it moves toward where that is within reach, and
moved by the whole slew otherwise (R40, R41). -/
theorem slewed_spec (tmax slew : Nat) (previous torque : Int) :
    let m := slewed tmax slew previous torque
    let start := clampSym tmax previous
    let target := clampSym tmax torque
    (m - start).natAbs ≤ slew ∧ ((start ≤ m ∧ m ≤ target) ∨ (target ≤ m ∧ m ≤ start)) ∧
      ((target - start).natAbs ≤ slew → m = target) ∧
      (slew < (target - start).natAbs → (m - start).natAbs = slew) := by
  intro m start target
  rcases le_or_gt (target - start).natAbs slew with within | beyond
  · have : m = target := slewed_of_within within
    omega
  · rcases le_or_gt target start with down | up
    · have : m = start - slew := slewed_of_below (by omega)
      omega
    · have : m = start + slew := slewed_of_above (by omega)
      omega

/-- The cut acts beyond the soft lean limit on a torque that has the sign of the lean angle (R42). -/
theorem leanCut_eq (ls : Nat) (phi torque : Int) :
    leanCut ls phi torque = if ls < phi.natAbs ∧ 0 < torque * phi then 0 else torque := by
  simp only [leanCut, mul_pos_iff]

/-- Settles O12. -/
theorem tiltTorque : Obligations.TiltTorque := by
  intro t x prevTilt prevSteer cycle u phi phiDot r auth start target
  have output : r.tTilt = Machine.tiltTorque t prevTilt phi auth := rfl
  have aim : r.phiStar = targetLean t x.v x.served.delta := rfl
  refine ⟨fun mode => ?upright, fun mode => ?mapped, rfl, fun mode => authTorque_of_not_safe mode _ _ _ _,
    fun mode => ?damping, fun mode => tiltTorque_of_undriven mode _ _ _, tiltTorque_natAbs_le t prevTilt phi auth,
    fun off held => ?slewed⟩
  case upright =>
    rw [aim]
    rcases mode with mode | mode | mode <;> simp only [targetLean, mode]
  case mapped =>
    rw [aim]
    rcases mode with mode | mode | mode | mode <;> simp only [targetLean, mode]
  case damping =>
    have damped : auth = safeTorque u phiDot := by simp only [auth, authTorque, mode, u]
    rw [damped]
    exact ⟨rfl, safeTorque_opposed u phiDot⟩
  case slewed =>
    obtain ⟨reach, between, arrives, whole⟩ := slewed_spec u.tmaxTilt u.slewTilt prevTilt auth
    rw [output, tiltTorque_of_driven off held, leanCut_eq]
    refine ⟨_, reach, between, arrives, whole, fun inside => if_neg ?_, fun _ opposed => if_neg ?_,
      fun beyond same => if_pos ⟨beyond, same⟩⟩
    · exact fun cut => absurd cut.1 (not_lt.2 inside)
    · exact fun cut => absurd cut.2 (not_lt.2 opposed)

end Sys2Proof.Proofs

/-! The control cycle: what its expiry and its completion leave of the setpoints, the speed at the last cycle end, the
pending bank and the previous lean angle, which the frame lemmas of Laws/ do not list. -/

namespace Sys2Proof.Proofs
open Sys2Proof.Machine

/-! ### The setpoints -/

@[simp] theorem given_setpoint (wanted kindClear : Bool) (c : Channel) :
    (c.given wanted kindClear).setpoint = c.setpoint := by
  unfold Channel.given
  split
  · split <;> rfl
  · split <;> rfl

@[simp] theorem modeChanged_setpoint (s : State) (c : ModeCause) (q : Sequencer) (tilt steer : Bool) (b : Bridge) :
    ((s.modeChanged c q tilt steer).drive.channel b).setpoint = (s.drive.channel b).setpoint := by
  cases b <;> exact given_setpoint _ _ _

@[simp] theorem safeRequest_setpoint (k : FaultKind) (n : Nat) (s : State) (b : Bridge) :
    ((safeRequest k n s).drive.channel b).setpoint = (s.drive.channel b).setpoint := by
  unfold safeRequest
  split <;> simp [enterSafe, changeMode_eq]

@[simp] theorem raise_setpoint (k : FaultKind) (n : Nat) (s : State) (b : Bridge) :
    ((raise k n s).drive.channel b).setpoint = (s.drive.channel b).setpoint := by
  unfold raise
  dsimp only
  split <;> simp

@[simp] theorem updateCondition_setpoint (m : Mode) (q : Quantity) (s : State) (b : Bridge) :
    ((updateCondition m q s).drive.channel b).setpoint = (s.drive.channel b).setpoint := by
  unfold updateCondition raiseCondition
  dsimp only
  split
  · rfl
  · split <;> simp

@[simp] theorem resolve_setpoint (m : Mode) (q : Quantity) (phi : Int) (s : State) (b : Bridge) :
    ((resolve m q phi s).1.drive.channel b).setpoint = (s.drive.channel b).setpoint := by
  simp [resolve]

@[simp] theorem selectorStage_setpoint (m : Mode) (s : State) (b : Bridge) :
    ((selectorStage m s).1.drive.channel b).setpoint = (s.drive.channel b).setpoint := by
  simp [selectorStage]

@[simp] theorem updateSpeedLost_setpoint (v : Bool) (s : State) (b : Bridge) :
    ((updateSpeedLost v s).drive.channel b).setpoint = (s.drive.channel b).setpoint := by
  unfold updateSpeedLost
  repeat' split
  all_goals simp

@[simp] theorem updateWheelDegraded_setpoint (n k : Nat) (s : State) (b : Bridge) :
    ((updateWheelDegraded n k s).drive.channel b).setpoint = (s.drive.channel b).setpoint := by
  unfold updateWheelDegraded
  repeat' split
  all_goals simp

@[simp] theorem trackerStage_setpoint (s : State) (b : Bridge) :
    ((trackerStage s).1.drive.channel b).setpoint = (s.drive.channel b).setpoint := by
  simp [trackerStage]

/-! ### The previous lean angle and the tracker's kept values -/

@[simp] theorem put_prevPhi (x : Selector) (q : Quantity) (r : QuantityRecord) : (x.put q r).prevPhi = x.prevPhi := by
  cases q <;> rfl

@[simp] theorem updateCondition_prevPhi (m : Mode) (q : Quantity) (s : State) :
    (updateCondition m q s).sel.prevPhi = s.sel.prevPhi := by
  unfold updateCondition
  dsimp only
  split <;> simp

@[simp] theorem resolve_prevPhi (m : Mode) (q : Quantity) (phi : Int) (s : State) :
    (resolve m q phi s).1.sel.prevPhi = s.sel.prevPhi := by
  simp [resolve]

/-- φprev takes the lean angle served (R92). -/
theorem selectorStage_prevPhi (m : Mode) (s : State) :
    (selectorStage m s).1.sel.prevPhi = (selectorStage m s).2.phi := by
  simp [selectorStage]

@[simp] theorem hold_counter (t : Tracker) : t.hold.counter = t.counter := by
  unfold Tracker.hold
  split <;> rfl

/-- The two conditions move nothing of the tracker but their own records. -/
theorem updateSpeedLost_wheels (v : Bool) (s : State) :
    ∃ lost, (updateSpeedLost v s).wheels = { s.wheels with lostRaised := lost } := by
  unfold updateSpeedLost
  split
  · exact ⟨true, by simp⟩
  · split
    · exact ⟨false, by simp⟩
    · exact ⟨s.wheels.lostRaised, rfl⟩

theorem updateWheelDegraded_wheels (n k : Nat) (s : State) :
    ∃ degraded, (updateWheelDegraded n k s).wheels = { s.wheels with degradedRaised := degraded } := by
  unfold updateWheelDegraded
  split
  · exact ⟨true, by simp⟩
  · split
    · exact ⟨false, by simp⟩
    · exact ⟨s.wheels.degradedRaised, rfl⟩

/-- The tracker a computation leaves: evaluated and held, the conditions' records apart (R109, R112, R113). -/
theorem trackerStage_wheels (s : State) :
    ∃ degraded lost, (trackerStage s).1.wheels =
      { s.wheels.evaluated.hold with degradedRaised := degraded, lostRaised := lost } := by
  let kept : State := { s with wheels := s.wheels.evaluated.hold }
  obtain ⟨lost, hl⟩ := updateSpeedLost_wheels s.wheels.evaluated.fused.isSome kept
  obtain ⟨degraded, hd⟩ := updateWheelDegraded_wheels s.wheels.evaluated.validCount s.wheels.evaluated.lowestInvalid
    (updateSpeedLost s.wheels.evaluated.fused.isSome kept)
  exact ⟨degraded, lost, by rw [trackerStage, hd, hl]⟩

theorem trackerStage_heldSpeed (s : State) : (trackerStage s).1.wheels.heldSpeed = (trackerStage s).2 := by
  obtain ⟨degraded, lost, h⟩ := trackerStage_wheels s
  rw [h]
  rfl

theorem trackerStage_counter (s : State) : (trackerStage s).1.wheels.counter = s.wheels.counter := by
  obtain ⟨degraded, lost, h⟩ := trackerStage_wheels s
  rw [h]
  exact hold_counter _

/-- Settles O14: the state is the one the tracker's stage leaves, with the law's own record. -/
theorem controlCycleExpiry : Obligations.ControlCycleExpiry := by
  intro s n timer free now cycle started served
  have expiry : ∀ x, exec (.controlCycleExpiry x) s =
      .next (if x = s.wheels.counter then startComputation s else s) := by
    intro x
    simp only [exec, execControlCycleExpiry, timer, completeInProgress, free]
  refine ⟨fun other differs => by rw [expiry, if_neg differs], startComputation s, by rw [expiry, if_pos rfl], ?_⟩
  let tracked := trackerStage (selectorStage s.seq.mode started).1
  have speed : tracked.2 = (startComputation s).wheels.heldSpeed := (trackerStage_heldSpeed _).symm
  have law : tracked.1.law = started.law := by simp only [tracked, trackerStage_keeps, selectorStage_keeps]
  rw [← speed]
  intro x r
  let results (l : Law) : Results :=
    computeResults { mode := s.seq.mode, bank := s.tables.activeBank, degrade := s.faults.degradeInForce }
      { x with deltaDot := rateOf served.delta l.prevDelta } l.prevTilt l.prevSteer cycle
  have whole : (startComputation s).law = { tracked.1.law with
      prevTilt := (results tracked.1.law).tTilt
      prevSteer := (results tracked.1.law).tSteer
      prevDelta := served.delta
      computing := some { results := results tracked.1.law, age := 0 } } := rfl
  have drive : (startComputation s).drive = tracked.1.drive := rfl
  refine ⟨?law, ?counter, ?prevPhi, ?tables, ?bus, ?conv, ?mem, ?tilt, ?steer, ?phase⟩
  case law => rw [whole, law]; rfl
  case counter =>
    refine (trackerStage_counter _).trans ?_
    simp only [selectorStage_keeps]
    rfl
  case prevPhi =>
    refine Eq.trans ?_ (selectorStage_prevPhi s.seq.mode started)
    exact congrArg Selector.prevPhi (trackerStage_keeps _).2.2.2.2.2.2.2.1
  case tilt => rw [drive]; exact (trackerStage_setpoint _ .tilt).trans (selectorStage_setpoint _ started .tilt)
  case steer => rw [drive]; exact (trackerStage_setpoint _ .steer).trans (selectorStage_setpoint _ started .steer)
  all_goals simp only [startComputation_keeps]

/-! ### The completion -/

@[simp] theorem modeChanged_setpoints (s : State) (c : ModeCause) (q : Sequencer) (tilt steer : Bool) :
    (s.modeChanged c q tilt steer).drive.tilt.setpoint = s.drive.tilt.setpoint ∧
      (s.modeChanged c q tilt steer).drive.steer.setpoint = s.drive.steer.setpoint :=
  ⟨given_setpoint _ _ _, given_setpoint _ _ _⟩

/-- The setpoints, the speed at the last cycle end and the pending bank: what no entry into a mode touches. -/
def KeepsDelivered (s t : State) : Prop :=
  t.drive.tilt.setpoint = s.drive.tilt.setpoint ∧ t.drive.steer.setpoint = s.drive.steer.setpoint ∧
    t.seq.lastSpeed = s.seq.lastSpeed ∧ t.tables.pendingBank = s.tables.pendingBank

theorem KeepsDelivered.rfl {s : State} : KeepsDelivered s s := ⟨Eq.refl _, Eq.refl _, Eq.refl _, Eq.refl _⟩

theorem modeChanged_keepsDelivered (s : State) (c : ModeCause) {q : Sequencer} (tilt steer : Bool)
    (speed : q.lastSpeed = s.seq.lastSpeed) : KeepsDelivered s (s.modeChanged c q tilt steer) := by
  simp [KeepsDelivered, speed]

theorem requestSwap_keepsDelivered (s : State) : KeepsDelivered s (requestSwap s) := by
  unfold requestSwap
  split
  · rw [swap_eq]; exact ⟨rfl, rfl, rfl, rfl⟩
  · exact .rfl

theorem KeepsDelivered.trans {s t u : State} (h : KeepsDelivered s t) (h' : KeepsDelivered t u) :
    KeepsDelivered s u :=
  ⟨h'.1.trans h.1, h'.2.1.trans h.2.1, h'.2.2.1.trans h.2.2.1, h'.2.2.2.trans h.2.2.2⟩

theorem enterEngaging_keepsDelivered (c : ModeCause) (s : State) : KeepsDelivered s (enterEngaging c s) := by
  rw [enterEngaging_eq]
  dsimp only
  split
  · exact (modeChanged_keepsDelivered s c (q := { s.seq with
        solenoid := false, mode := .engaging, lockLimit := some 150000, latchHolding := false }) true true rfl).trans
      ((modeChanged_keepsDelivered _ _ _ _ (by simp)).trans (requestSwap_keepsDelivered _))
  · exact modeChanged_keepsDelivered _ _ _ _ rfl

theorem setSolenoid_keepsDelivered (on : Bool) (s : State) : KeepsDelivered s (setSolenoid on s) := by
  have channels := command_channels s.drive s.seq.solenoid on
  exact ⟨congrArg Channel.setpoint channels.1, congrArg Channel.setpoint channels.2, rfl, rfl⟩

/-- The cycle end keeps the speed first, and none of its entries touches it. -/
theorem cycleEnd_keepsDelivered (s : State) :
    KeepsDelivered { s with seq := { s.seq with lastSpeed := s.law.results.v } } (cycleEnd s) := by
  unfold cycleEnd
  dsimp only
  generalize kept : ({ s with seq := { s.seq with lastSpeed := s.law.results.v } } : State) = k
  have same : KeepsDelivered k k := .rfl
  split
  · exact same
  · unfold cycleEndHeld
    split
    · rw [enterReleasing_eq]; exact modeChanged_keepsDelivered _ _ _ _ rfl
    · exact same
  · unfold cycleEndReleasing
    split
    · exact enterEngaging_keepsDelivered _ _
    · split
      · exact enterEngaging_keepsDelivered _ _
      · exact same
  · unfold cycleEndActive
    split
    · rw [enterCapturing_eq]; exact modeChanged_keepsDelivered _ _ _ _ rfl
    · split
      · rw [enterCapturing_eq]; exact modeChanged_keepsDelivered _ _ _ _ rfl
      · exact same
  · unfold cycleEndCapturing
    split
    · rw [enterActive_eq]; exact modeChanged_keepsDelivered _ _ _ _ rfl
    · dsimp only
      generalize (if k.captureSteady then bump 5 k.seq.captureCount else 0) = n
      split
      · exact enterEngaging_keepsDelivered _ { k with seq := { k.seq with captureCount := n } }
      · exact same
  · exact same
  · unfold cycleEndSafe
    split
    · exact setSolenoid_keepsDelivered _ _
    · exact same

/-- Settles O15: the sample of the trace comes last and touches the port alone. -/
theorem computationComplete : Obligations.ComputationComplete := by
  intro s c computing
  let delivered : State := { s with law := { s.law with computing := none, results := c.results }
                                    drive := s.drive.takeSetpoints c.results }
  have completed : exec .computationComplete s = .next (traceSample (cycleEnd delivered)) := by
    simp only [exec, execComputationComplete, computing, completeComputation]
    rfl
  obtain ⟨tilt, steer, speed, pending⟩ := cycleEnd_keepsDelivered delivered
  have law : (traceSample (cycleEnd delivered)).law = delivered.law := by
    simp only [traceSample_keeps, cycleEnd_keeps]
  refine ⟨_, completed, law, ?_⟩
  simp only [traceSample_keeps, cycleEnd_keeps, tilt, steer, speed, pending]
  exact ⟨rfl, rfl, rfl, rfl, rfl, rfl, rfl, rfl, rfl, rfl, rfl, rfl⟩

end Sys2Proof.Proofs

/-! The cycle end in the modes other than HELD (R14, R17 to R20, R24): each mode's own conditions, and the entries they
lead to, in which the speed kept beforehand shows only in the sequencer. -/

namespace Sys2Proof.Proofs
open Sys2Proof.Machine

/-! ### Entries from a state whose sequencer has been touched before -/

section
variable (s : State) (q₀ : Sequencer) (mode : q₀.mode = s.seq.mode) (solenoid : q₀.solenoid = s.seq.solenoid)
  (c : ModeCause)
include mode solenoid

theorem enterCapturing_of_seq :
    enterCapturing c { s with seq := q₀ } = s.modeChanged c
      { q₀ with solenoid := true, mode := .capturing, lockLimit := none, latchHolding := false, captureCount := 0 }
      true true := by
  rw [enterCapturing_eq, State.modeChanged_of_seq _ _ _ _ _ _ mode solenoid]

theorem enterActive_of_seq :
    enterActive c { s with seq := q₀ } = s.modeChanged c
      { q₀ with solenoid := true, mode := .active, lockLimit := none, latchHolding := false, captureCount := 0 }
      true true := by
  rw [enterActive_eq, State.modeChanged_of_seq _ _ _ _ _ _ mode solenoid]

theorem enterHeld_of_seq :
    enterHeld c { s with seq := q₀ } = requestSwap (s.modeChanged c
      { q₀ with solenoid := false, mode := .held, lockLimit := none, latchHolding := false, attemptCount := 0,
                captureCount := 0 } false true) := by
  rw [enterHeld_eq, State.modeChanged_of_seq _ _ _ _ _ _ mode solenoid]

/-- ENGAGING, where the pin is not seated. -/
theorem enterEngaging_of_loose (loose : q₀.lockDrive ≠ .engaged) :
    enterEngaging c { s with seq := q₀ } = s.modeChanged c
      { q₀ with solenoid := false, mode := .engaging, lockLimit := some 150000, latchHolding := false } true true := by
  rw [enterEngaging_eq]
  dsimp only
  rw [State.modeChanged_of_seq _ _ _ _ _ _ mode solenoid]
  exact if_neg loose

/-- ENGAGING, where the pin is seated already: HELD follows at once, and then the swap request (R20, R26). -/
theorem enterEngaging_of_seated (seated : q₀.lockDrive = .engaged) :
    enterEngaging c { s with seq := q₀ } =
      requestSwap ((s.modeChanged c
        { q₀ with solenoid := false, mode := .engaging, lockLimit := some 150000, latchHolding := false }
        true true).modeChanged .lockContact
        { q₀ with solenoid := false, mode := .held, lockLimit := none, latchHolding := false, attemptCount := 0,
                  captureCount := 0 } false true) := by
  rw [enterEngaging_eq]
  dsimp only
  rw [State.modeChanged_of_seq _ _ _ _ _ _ mode solenoid]
  exact if_pos seated

end

/-! ### The cycle end by mode -/

/-- The state with the speed kept (R14). -/
def speedKept (s : State) : State := { s with seq := { s.seq with lastSpeed := s.law.results.v } }

theorem cycleEnd_eq (s : State) :
    cycleEnd s = match s.seq.mode with
      | .off => speedKept s
      | .held => cycleEndHeld s.law.results.v (speedKept s)
      | .releasing => cycleEndReleasing s.law.results.v (speedKept s)
      | .active => cycleEndActive s.law.results.v (speedKept s)
      | .capturing => cycleEndCapturing s.law.results.v (speedKept s)
      | .engaging => speedKept s
      | .safe => cycleEndSafe s.law.results.v (speedKept s) :=
  rfl

theorem cycleEnd_of_releasing {s : State} (mode : s.seq.mode = .releasing) :
    cycleEnd s = if s.seq.lockRequested then enterEngaging .lockRequest (speedKept s)
      else if s.law.results.v < s.tuning.vCap then enterEngaging .speed (speedKept s) else speedKept s := by
  have dispatch : cycleEnd s = cycleEndReleasing s.law.results.v (speedKept s) := by rw [cycleEnd_eq, mode]
  rw [dispatch]
  rfl

theorem cycleEnd_of_active {s : State} (mode : s.seq.mode = .active) :
    cycleEnd s = if s.law.results.v < s.tuning.vCap then enterCapturing .speed (speedKept s)
      else if s.seq.lockRequested = true ∧ s.law.results.v < s.tuning.vRel then
        enterCapturing .lockRequest (speedKept s)
      else speedKept s := by
  have dispatch : cycleEnd s = cycleEndActive s.law.results.v (speedKept s) := by rw [cycleEnd_eq, mode]
  rw [dispatch]
  rfl

theorem cycleEnd_of_capturing {s : State} (mode : s.seq.mode = .capturing) :
    cycleEnd s = if s.tuning.vRel ≤ s.law.results.v ∧ s.seq.lockRequested = false then
        enterActive .speed (speedKept s)
      else
        let n := if s.captureSteady then bump 5 s.seq.captureCount else 0
        let counted : State := { s with seq := { s.seq with captureCount := n, lastSpeed := s.law.results.v } }
        if n = 5 then enterEngaging .captureQualified counted else counted := by
  have dispatch : cycleEnd s = cycleEndCapturing s.law.results.v (speedKept s) := by rw [cycleEnd_eq, mode]
  rw [dispatch]
  rfl

theorem cycleEnd_of_safe {s : State} (mode : s.seq.mode = .safe) :
    cycleEnd s = if s.seq.latchHolding = true ∧ s.law.results.v < s.tuning.vCap then
        { s with seq := { s.seq with latchHolding := false, solenoid := false, lastSpeed := s.law.results.v }
                 drive := s.drive.command s.seq.solenoid false }
      else speedKept s := by
  have dispatch : cycleEnd s = cycleEndSafe s.law.results.v (speedKept s) := by rw [cycleEnd_eq, mode]
  rw [dispatch]
  rfl

/-- A release that is given up enters ENGAGING, with the cause that gives it up (R17). -/
theorem cycleEnd_of_givenUp {s : State} (mode : s.seq.mode = .releasing)
    (givenUp : s.seq.lockRequested = true ∨ s.law.results.v < s.tuning.vCap) :
    cycleEnd s = enterEngaging (if s.seq.lockRequested then .lockRequest else .speed) (speedKept s) := by
  rw [cycleEnd_of_releasing mode]
  cases requested : s.seq.lockRequested with
  | true => rfl
  | false => rw [if_neg nofun, if_pos (givenUp.resolve_left (by simp [requested]))]; rfl

/-- Settles O17: the conditions of each mode choose the entry, and the entry is read off `State.modeChanged`. -/
theorem cycleEndInReleasingAndActive : Obligations.CycleEndInReleasingAndActive := by
  intro s t v unchanged givenUp capturing engaging held given
  refine ⟨fun mode stays => ?stays, fun mode gives loose => ?loose, fun mode gives seated => ?seated,
    fun mode slow => ?slow, fun mode fast requested below => ?requested, fun mode fast none => ?rides, ?_⟩
  case stays =>
    obtain ⟨free, fast⟩ := not_or.1 stays
    exact (cycleEnd_of_releasing mode).trans ((if_neg free).trans (if_neg fast))
  case loose => exact (cycleEnd_of_givenUp mode gives).trans (enterEngaging_of_loose s (speedKept s).seq rfl rfl _ loose)
  case seated => exact (cycleEnd_of_givenUp mode gives).trans (enterEngaging_of_seated s (speedKept s).seq rfl rfl _ seated)
  case slow =>
    refine (cycleEnd_of_active mode).trans ((if_pos slow).trans ?_)
    exact enterCapturing_of_seq s (speedKept s).seq rfl rfl _
  case requested =>
    refine (cycleEnd_of_active mode).trans ((if_neg fast.not_gt).trans ((if_pos ⟨requested, below⟩).trans ?_))
    exact enterCapturing_of_seq s (speedKept s).seq rfl rfl _
  case rides =>
    refine (cycleEnd_of_active mode).trans ((if_neg fast.not_gt).trans (if_neg fun both => ?_))
    rcases none with free | above
    · exact absurd both.1 (by simp [free])
    · exact absurd both.2 above.not_gt
  case _ => simp [t]

theorem captureSteady_iff (s : State) :
    s.captureSteady = true ↔ s.law.results.phi.natAbs ≤ s.tuning.captureBand ∧
      s.law.results.phiDot.natAbs ≤ s.tuning.captureRate := by
  simp [State.captureSteady]

/-- The cycle end in CAPTURING that does not return to ACTIVE (R19). -/
theorem cycleEnd_of_counting {s : State} (mode : s.seq.mode = .capturing)
    (stays : ¬ (s.tuning.vRel ≤ s.law.results.v ∧ s.seq.lockRequested = false)) {n : Nat}
    (count : (if s.captureSteady then bump 5 s.seq.captureCount else 0) = n) :
    cycleEnd s =
      if n = 5 then enterEngaging .captureQualified
        { s with seq := { s.seq with captureCount := n, lastSpeed := s.law.results.v } }
      else { s with seq := { s.seq with captureCount := n, lastSpeed := s.law.results.v } } := by
  rw [cycleEnd_of_capturing mode, if_neg stays, count]

/-- Settles O18: as in the other modes, the count of CAPTURING taken before the entry. -/
theorem cycleEndInOtherModes : Obligations.CycleEndInOtherModes := by
  intro s t v unchanged riding steady active engaging held qualified
  refine ⟨fun mode => ?rests, fun mode => ⟨fun rides => ?rides, fun stays isSteady few => ?counts,
    fun stays isSteady enough => ?qualifies, fun stays unsteady => ?unsteady⟩, fun mode holding slow => ?releases,
    fun mode stands => ?stands⟩
  case rests =>
    have kept : cycleEnd s = speedKept s := by rcases mode with mode | mode <;> rw [cycleEnd_eq, mode]
    exact kept
  case rides =>
    refine (cycleEnd_of_capturing mode).trans ((if_pos rides).trans ?_)
    exact enterActive_of_seq s (speedKept s).seq rfl rfl _
  case counts =>
    have count : (if s.captureSteady then bump 5 s.seq.captureCount else 0) = s.seq.captureCount + 1 := by
      rw [if_pos ((captureSteady_iff s).2 isSteady), bump, if_pos (by omega)]
    exact (cycleEnd_of_counting mode stays count).trans (if_neg (by omega))
  case qualifies =>
    have count : (if s.captureSteady then bump 5 s.seq.captureCount else 0) = 5 := by
      rw [if_pos ((captureSteady_iff s).2 isSteady), bump]
      split <;> omega
    have entered := (cycleEnd_of_counting mode stays count).trans (if_pos rfl)
    let counted : Sequencer := { s.seq with captureCount := 5, lastSpeed := s.law.results.v }
    refine ⟨fun loose => entered.trans (enterEngaging_of_loose s counted rfl rfl _ loose), fun seated => ?_⟩
    have swapped := entered.trans (enterEngaging_of_seated s counted rfl rfl _ seated)
    exact ⟨swapped, (congrArg (fun u : State => u.tables.commitPending) swapped).trans (requestSwap_settled _)⟩
  case unsteady =>
    have count : (if s.captureSteady then bump 5 s.seq.captureCount else 0) = 0 :=
      if_neg fun isSteady => unsteady ((captureSteady_iff s).1 isSteady)
    exact (cycleEnd_of_counting mode stays count).trans (if_neg (by omega))
  case releases => exact (cycleEnd_of_safe mode).trans (if_pos ⟨holding, slow⟩)
  case stands =>
    refine (cycleEnd_of_safe mode).trans (if_neg fun both => ?_)
    rcases stands with released | fast
    · exact absurd both.1 (by simp [released])
    · exact absurd both.2 fast.not_gt

end Sys2Proof.Proofs

/-! The mode directives (R9 to R11, R14, R25): what the part is ready for, the least SAFE-class code, and the entries
each directive makes. -/

namespace Sys2Proof.Proofs
open Sys2Proof.Machine

theorem effective_eq (r : FaultRecord) : r.effective = if r.escalated = true then .safe else r.reaction := rfl

theorem safeClass_iff (r : FaultRecord) : r.safeClass = true ↔ r.state ≠ .clear ∧ r.effective = .safe := by
  simp [FaultRecord.safeClass]

theorem safeClassPresent_iff (m : FaultMonitor) :
    m.safeClassPresent = true ↔ ∃ k, (m.get k).state ≠ .clear ∧ (m.get k).effective = .safe := by
  simp only [FaultMonitor.safeClassPresent, table_any, safeClass_iff]

/-- The kinds stand in code order. -/
theorem code_getElem {i : Nat} (h : i < FaultKind.all.length) : FaultKind.all[i].code = i + 1 := by
  have place : (FaultKind.all.map FaultKind.idx)[i]? = some FaultKind.all[i].idx := by
    rw [List.getElem?_map, List.getElem?_eq_getElem h, Option.map_some]
  rw [map_idx_all] at place
  obtain ⟨_, atPlace⟩ := List.getElem?_eq_some_iff.mp place
  simp [FaultKind.code, ← atPlace]

/-- The first kind in code order that has a property is the one of the least code. -/
theorem find_least_code {p : FaultKind → Bool} {k : FaultKind} (has : p k = true)
    (least : ∀ j, p j = true → k.code ≤ j.code) : (FaultKind.all.find? p).map FaultKind.code = some k.code := by
  cases found : FaultKind.all.find? p with
  | none => exact absurd has (List.find?_eq_none.1 found k (mem_faultKinds k))
  | some j =>
    obtain ⟨hasJ, i, hi, rfl, before⟩ := List.find?_eq_some_iff_getElem.1 found
    obtain ⟨n, hn, rfl⟩ := List.getElem_of_mem (mem_faultKinds k)
    have notBefore : i ≤ n := by
      by_contra below
      have fails := before n (by omega)
      simp [has] at fails
    have := least _ hasJ
    rw [code_getElem, code_getElem] at this
    rw [Option.map_some, code_getElem, code_getElem]
    congr 1
    omega

theorem lowestSafeClass_eq {m : FaultMonitor} {k : FaultKind} (has : (m.get k).safeClass = true)
    (least : ∀ j, (m.get j).safeClass = true → k.code ≤ j.code) : m.lowestSafeClass = k.code := by
  have found := find_least_code (p := fun k => (m.get k).safeClass) has least
  unfold FaultMonitor.lowestSafeClass
  cases first : FaultKind.all.find? fun k => (m.get k).safeClass with
  | none => simp [first] at found
  | some j => simpa [first] using found

theorem allJoined_iff (b : Bus) :
    b.allJoined = true ↔ (∃ i : Fin 6, (b.device i).cfg.enabled = true) ∧
      ∀ i : Fin 6, (b.device i).cfg.enabled = true → (b.device i).run.joined = true := by
  have any : b.devices.toList.any Device.present = true ↔ ∃ i : Fin 6, (b.device i).cfg.enabled = true := by
    simp [Vector.any_eq_true, Fin.exists_iff, Bus.device, Device.present]
  have all : (b.devices.toList.all fun d => d.present == d.inJoinedSet) = true ↔
      ∀ i : Fin 6, (b.device i).cfg.enabled = true → (b.device i).run.joined = true := by
    simp [Vector.all_eq_true, Fin.forall_iff, Bus.device, Device.present, Device.inJoinedSet]
  rw [Bus.allJoined, Bool.and_eq_true, any, all]

/-- The first failing readiness check (R10). -/
theorem unready_eq (s : State) :
    s.unready =
      if s.bus.allJoined = true ∧ (s.sel.lean.shown.state ≠ .lost ∧ s.sel.rate.shown.state ≠ .lost) ∧
          s.seq.lockDrive = .engaged ∧ s.tables.generation ≠ 0 ∧ s.faults.safeClassPresent = false then none
      else some (if s.bus.allJoined = false then 1
        else if ¬ (s.sel.lean.shown.state ≠ .lost ∧ s.sel.rate.shown.state ≠ .lost) then 2
        else if s.seq.lockDrive ≠ .engaged then 3 else if s.tables.generation = 0 then 4 else 5) := by
  unfold State.unready
  by_cases joined : s.bus.allJoined = false
  · simp [joined]
  have quantities : s.sel.lean.shown.state = .lost ∨ s.sel.rate.shown.state = .lost ↔
      ¬ (s.sel.lean.shown.state ≠ .lost ∧ s.sel.rate.shown.state ≠ .lost) := by tauto
  rw [if_neg joined, if_neg joined, if_congr quantities rfl rfl]
  by_cases served : s.sel.lean.shown.state ≠ .lost ∧ s.sel.rate.shown.state ≠ .lost
  case neg => rw [if_pos served, if_pos served, if_neg fun ready => served ready.2.1]
  rw [if_neg (not_not.2 served), if_neg (not_not.2 served)]
  by_cases seated : s.seq.lockDrive = .engaged
  case neg => rw [if_pos seated, if_pos seated, if_neg fun ready => seated ready.2.2.1]
  rw [if_neg (not_not.2 seated), if_neg (not_not.2 seated)]
  by_cases swapped : s.tables.generation = 0
  · rw [if_pos swapped, if_pos swapped, if_neg fun ready => ready.2.2.2.1 swapped]
  rw [if_neg swapped, if_neg swapped]
  cases present : s.faults.safeClassPresent with
  | true => rw [if_pos rfl, if_neg fun ready => absurd ready.2.2.2.2 nofun]
  | false => rw [if_neg nofun, if_pos ⟨by simpa using joined, served, seated, swapped, rfl⟩]

/-- Settles O19. -/
theorem modeDirectives : Obligations.ModeDirectives := by
  intro tag b s enable disable recover quantities ready standing toHeld toOff toCapturing safeClass
  have enabling : s.seq.mode = .off → enable = answered (match s.unready with
      | some reason => (s, .plain .notReady reason)
      | none => (enterHeld .directive s, .plain .accepted 0)) := fun mode => by
    simp only [enable, deliver, Machine.enable, mode, if_true] <;> rfl
  have recovering : s.seq.mode = .safe → s.faults.safeClassPresent = false → recover = answered
      (if s.seq.lockDrive = .engaged then
        (enterHeld .directive { s with seq := { s.seq with attemptCount := 0 } }, .plain .accepted 0)
      else (enterCapturing .directive { s with seq := { s.seq with attemptCount := 0 } }, .plain .accepted 0)) :=
    fun mode none => by
      simp only [recover, deliver, Machine.recover, mode, none, if_true, Bool.false_eq_true, if_false]
      rfl
  have toOff_eq : enterOff .directive s = toOff := enterOff_eq .directive s
  refine ⟨fun k => effective_eq _, safeClassPresent_iff s.faults, fun k is least => ?least, allJoined_iff s.bus,
    fun mode => ?enableElsewhere, fun mode isReady => ?enableReady, fun mode notReady => ?enableUnready,
    fun mode => ?disableOff, fun mode => ?disableHeld, fun mode seated slow => ?disableSafe,
    fun mode moving => ?disableSafeMoving, fun off held safe => ?disableElsewhere, fun mode => ?recoverElsewhere,
    fun mode present => ?recoverPresent, fun mode none seated => ?recoverHeld, fun mode none loose => ?recoverCapturing,
    ?lockHold⟩
  case least => exact lowestSafeClass_eq ((safeClass_iff _).2 is) fun j isJ => least j ((safeClass_iff _).1 isJ)
  case enableElsewhere => simp only [enable, deliver, Machine.enable, if_neg mode]; rfl
  case enableReady =>
    rw [enabling mode, unready_eq, if_pos isReady]
    exact congrArg (fun t => (t, some (Done.plain .accepted 0))) (enterHeld_eq .directive s)
  case enableUnready => rw [enabling mode, unready_eq, if_neg notReady]; exact ⟨rfl, rfl⟩
  case disableOff => simp only [disable, deliver, Machine.disable, mode]; rfl
  case disableHeld => simp only [disable, deliver, Machine.disable, mode, toOff_eq]; rfl
  case disableSafe =>
    have done : disable = (requestSwap toOff, some (.plain .accepted 0)) := by
      simp only [disable, deliver, Machine.disable, mode, toOff_eq, if_pos (And.intro seated slow)]
      rfl
    exact ⟨done, by rw [done]; exact requestSwap_settled _⟩
  case disableSafeMoving =>
    have refused : ¬ (s.seq.lockDrive = .engaged ∧ s.seq.lastSpeed < s.tuning.vCap) := fun both =>
      moving.elim (fun loose => loose both.1) fun fast => fast.not_gt both.2
    simp only [disable, deliver, Machine.disable, mode, if_neg refused]
    rfl
  case disableElsewhere =>
    cases mode : s.seq.mode <;> first | contradiction | (simp only [disable, deliver, Machine.disable, mode]; rfl)
  case recoverElsewhere => simp only [recover, deliver, Machine.recover, if_neg mode]; rfl
  case recoverPresent => simp only [recover, deliver, Machine.recover, mode, present, if_true]; rfl
  case recoverHeld =>
    rw [recovering mode none, if_pos seated]
    exact congrArg (fun t => (t, some (Done.plain .accepted 0)))
      (enterHeld_of_seq s { s.seq with attemptCount := 0 } rfl rfl .directive)
  case recoverCapturing =>
    rw [recovering mode none, if_neg loose]
    exact congrArg (fun t => (t, some (Done.plain .accepted 0)))
      (enterCapturing_of_seq s { s.seq with attemptCount := 0 } rfl rfl .directive)
  case lockHold =>
    have flag : flagAt [b] 0 = decide (b ≠ 0) := by
      have zero : b.toNat = 0 ↔ b = 0 := by rw [← BitVec.toNat_inj]; rfl
      simp [flagAt, byteAt, zero, bne, BEq.beq]
    simp only [deliver, answered, Machine.lockHold, flag]
    refine congrArg (fun n => (_, some (Done.plain .accepted n))) ?_
    by_cases closed : s.seq.lrq.level = true <;> by_cases zero : b = 0 <;>
      simp [bit, Sequencer.lockRequested, closed, zero]

end Sys2Proof.Proofs

/-! The fault monitor (R22 to R24, R145 to R160): staging as a change of the port alone, the entry into SAFE whole, and
from them a raise, an end, an escalation, an acknowledgement and a clear. -/

namespace Sys2Proof.Proofs
open Sys2Proof.Machine

/-! ### Staging, the fault line and the SAFE request, whole -/

/-- Staging changes the port alone. -/
theorem stage_eq (b : ReportBody) (s : State) : stage b s = { s with port := (stage b s).port } := by
  unfold stage
  cases s.port.map.destination b <;> rfl

/-- What staging leaves in the port depends on the port and the cycle number alone. -/
theorem stage_port_congr (b : ReportBody) {s t : State} (port : t.port = s.port) (law : t.law = s.law) :
    (stage b t).port = (stage b s).port := by
  unfold stage
  rw [port, law]
  cases s.port.map.destination b
  · rfl
  · rfl
  · exact port

theorem assertLine_report (was : Bool) (s : State) : assertLine was .report s = s := rfl

/-- The fault line at a raise that holds it (R156, R157). -/
theorem assertLine_holds (was : Bool) {r : Reaction} (holds : r ≠ .report) (s : State) :
    assertLine was r s =
      { s with faults := { s.faults with minTimer := some 200000 }
               port := { s.port with
                 cause := if was then s.port.cause else s.port.cause ||| Cause.faultLineAsserted.mask } } := by
  cases r with
  | report => exact absurd rfl holds
  | degrade | safe => cases was <;> rfl

theorem fltnActive_of_minTimer {m : FaultMonitor} (timed : m.minTimer.isSome = true) : m.fltnActive = true := by
  simp [FaultMonitor.fltnActive, timed]

/-- The sequencer in SAFE, as the entry with the latch at `holding` leaves it (R24). -/
def Sequencer.inSafe (q : Sequencer) (holding : Bool) : Sequencer :=
  { q with mode := .safe, solenoid := holding, latchHolding := holding, lockLimit := none, captureCount := 0 }

/-- An entry into SAFE: the mode change, then the retained record (R22 to R24, R160). -/
theorem enterSafe_eq (k : FaultKind) (n : Nat) (s : State) :
    enterSafe k n s =
      writeRetained k n s.seq.mode (s.modeChanged .fault (Sequencer.inSafe s.seq s.safeLatch) true false) := by
  unfold enterSafe
  dsimp only
  rw [changeMode_eq, State.modeChanged_of_seq _ { s.seq with captureCount := 0 } _ _ _ _ rfl rfl]
  rfl

theorem safeRequest_of_off {s : State} (off : s.seq.mode = .off) (k : FaultKind) (n : Nat) :
    safeRequest k n s = s := by rw [safeRequest, off]

theorem safeRequest_of_safe {s : State} (safe : s.seq.mode = .safe) (k : FaultKind) (n : Nat) :
    safeRequest k n s = writeRetained k n s.seq.mode s := by rw [safeRequest, safe]

theorem safeRequest_of_moving {s : State} (off : s.seq.mode ≠ .off) (safe : s.seq.mode ≠ .safe) (k : FaultKind)
    (n : Nat) : safeRequest k n s = enterSafe k n s := by
  unfold safeRequest
  cases mode : s.seq.mode with
  | off => exact absurd mode off
  | safe => exact absurd mode safe
  | held | releasing | active | capturing | engaging => rfl

/-- The retained record a SAFE request writes (R160). -/
def retainedAt (k : FaultKind) (n : Nat) (s : State) : Retained :=
  { kind := k.code, lastInstance := n, modeBefore := s.seq.mode, phi := s.law.results.phi, v := s.law.results.v,
    cycle := s.law.results.cycle, count := bump 255 s.faults.retained.count }

/-- A SAFE request outside OFF leaves SAFE and the retained record (R22, R160). -/
theorem safeRequest_writes {s : State} (off : s.seq.mode ≠ .off) (k : FaultKind) (n : Nat) :
    (safeRequest k n s).seq.mode = .safe ∧
      (safeRequest k n s).faults = { s.faults with retained := retainedAt k n s } := by
  by_cases safe : s.seq.mode = .safe
  · rw [safeRequest_of_safe safe]
    exact ⟨safe, rfl⟩
  · rw [safeRequest_of_moving off safe, enterSafe_eq]
    simp only [writeRetained, State.modeChanged_seq, State.modeChanged_faults]
    exact ⟨rfl, by simp [State.modeChanged, retainedAt]⟩

/-- The state in which a kind's record has been replaced and FAULT_CHANGED staged with it. -/
def recorded (k : FaultKind) (r told : FaultRecord) (s : State) : State :=
  { s with faults := s.faults.put k r
           port := (stage (.faultChanged k told.lastInstance told.state told.effective told.count) s).port }

theorem stageFault_putFault (k : FaultKind) (r : FaultRecord) (s : State) :
    stageFault k r (putFault k r s) = recorded k r r s := by
  rw [stageFault, stage_eq, stage_port_congr (s := s) (t := putFault k r s) _ rfl rfl]
  rfl

/-- The cause that a raise which holds the fault line leaves (R157). -/
def assertedCause (s : State) : BitVec 7 :=
  if s.faults.fltnActive then s.port.cause else s.port.cause ||| Cause.faultLineAsserted.mask

/-- A raise that brings no SAFE request into effect (R147). -/
theorem raise_quiet {k : FaultKind} {s : State}
    (quiet : s.seq.mode = .off ∨ (s.faults.get k).policyReaction ≠ .safe) (n : Nat) :
    raise k n s =
      let r := (s.faults.get k).raised k.momentary n
      assertLine s.faults.fltnActive (s.faults.get k).policyReaction (recorded k r.startAck r s) := by
  by_cases policy : (s.faults.get k).policyReaction = .safe
  · have off := quiet.resolve_right (not_not.2 policy)
    rw [raise_of_safe policy, policy]
    dsimp only
    rw [stageFault_putFault, safeRequest_of_off (s := recorded k _ _ s) off]
    simp only [putFault, recorded, put_put]
  · rw [raise_of_not_safe policy]
    dsimp only
    rw [stageFault_putFault]
    simp only [putFault, recorded, put_put]

theorem recorded_cause (k : FaultKind) (r told : FaultRecord) (s : State) :
    (recorded k r told s).port.cause = s.port.cause := by
  simp only [recorded, stage_keeps]

/-- Settles O23. -/
theorem raiseAndEnd : Obligations.RaiseAndEnd := by
  intro k n s old state count told t
  refine ⟨fun quiet => ?_, fun active => ?ends, fun rests => ?rests⟩
  case ends =>
    have ended : endFault k s = stageFault k { old with state := .latched } (putFault k { old with state := .latched } s) := by
      rw [endFault]
      dsimp only
      rw [active]
    rw [ended, stageFault_putFault]
    rfl
  case rests =>
    unfold endFault
    dsimp only
    cases stands : (s.faults.get k).state with
    | active => exact absurd stands rests
    | clear | latched => rfl
  have raised : t = _ := raise_quiet quiet n
  refine ⟨?record, fun j other => raise_get_ne k n s other, fun report => ?report, fun holds => ?holds, ?frame, ?kept⟩
  case record => exact (raise_get_same k n s).trans (raised_startAck _ _ _)
  case report =>
    dsimp only at raised
    rw [show (s.faults.get k).policyReaction = .report from report, assertLine_report] at raised
    rw [raised]
    exact ⟨rfl, rfl⟩
  case holds =>
    dsimp only at raised
    rw [assertLine_holds _ holds, recorded_cause] at raised
    rw [raised]
    exact ⟨rfl, fltnActive_of_minTimer rfl, rfl⟩
  case frame =>
    by_cases holds : (s.faults.get k).policyReaction = .report
    · dsimp only at raised
      rw [holds, assertLine_report] at raised
      rw [raised]
      rfl
    · dsimp only at raised
      rw [assertLine_holds _ holds] at raised
      rw [raised]
      rfl
  case kept => rw [raised]; simp [recorded]

/-- A record whose reaction is not DEGRADE starts no acknowledge timer (R147). -/
theorem startAck_of_safe {r : FaultRecord} (effective : r.effective = .safe) : r.startAck = r := by
  rw [FaultRecord.startAck, effective]
  rfl

/-- A raise that brings a SAFE request: the request is taken on the state with the record written and FAULT_CHANGED
staged, and what is done after it touches the kind's own record, the fault line and its cause alone (R22, R147). -/
theorem raise_requesting {k : FaultKind} {s : State} (policy : (s.faults.get k).policyReaction = .safe) (n : Nat) :
    raise k n s =
      let r := (s.faults.get k).raised k.momentary n
      let u := safeRequest k n (recorded k r r s)
      { u with faults := { u.faults.put k r with minTimer := some 200000 }
               port := { u.port with cause := assertedCause s } } := by
  have effective : ((s.faults.get k).raised k.momentary n).effective = .safe := policy
  rw [raise_of_safe policy]
  dsimp only
  rw [stageFault_putFault, startAck_of_safe effective, assertLine_holds (r := .safe) _ (by decide)]
  have cause : (safeRequest k n (recorded k ((s.faults.get k).raised k.momentary n)
      ((s.faults.get k).raised k.momentary n) s)).port.cause = s.port.cause := by
    simp only [safeRequest_keeps, recorded_cause]
  rw [putFault_port, cause]
  rfl

theorem given_wantedOff (kindClear : Bool) (c : Channel) :
    c.given false kindClear =
      if c.state = .on ∨ (c.state = .tripped ∧ kindClear = true) then
        { state := .off, wanted := false, setpoint := c.setpoint, integrator := c.integrator, duty := 0
          applied := 0, overRun := 0 }
      else { c with wanted := false } := if_neg nofun

/-- What an entry into SAFE leaves in the blocks it writes (R22 to R24, R133). -/
theorem safeRequest_enters {s : State} (off : s.seq.mode ≠ .off) (safe : s.seq.mode ≠ .safe) (k : FaultKind)
    (n : Nat) :
    (safeRequest k n s).seq = Sequencer.inSafe s.seq s.safeLatch ∧
    (safeRequest k n s).drive = { s.drive.command s.seq.solenoid s.safeLatch with
      tilt := s.drive.tilt.given true ((s.faults.get .tiltOvercurrent).state == .clear)
      steer := s.drive.steer.given false ((s.faults.get .steerOvercurrent).state == .clear) } ∧
    (safeRequest k n s).port = (stage (.modeChanged s.seq.mode .safe .fault) s).port := by
  rw [safeRequest_of_moving off safe, enterSafe_eq]
  exact ⟨rfl, rfl, rfl⟩

/-- A SAFE request in SAFE leaves the retained record alone written. -/
theorem safeRequest_stays {s : State} (safe : s.seq.mode = .safe) (k : FaultKind) (n : Nat) :
    (safeRequest k n s).seq = s.seq ∧ (safeRequest k n s).drive = s.drive ∧ (safeRequest k n s).port = s.port := by
  rw [safeRequest_of_safe safe]
  exact ⟨rfl, rfl, rfl⟩

/-- A SAFE request changes the sequencer, the drive, the fault monitor and the port alone. -/
theorem safeRequest_frame (k : FaultKind) (n : Nat) (s : State) :
    ∃ q d f p, safeRequest k n s = { s with seq := q, drive := d, faults := f, port := p } := by
  by_cases off : s.seq.mode = .off
  · exact ⟨_, _, _, _, safeRequest_of_off off k n⟩
  by_cases safe : s.seq.mode = .safe
  · exact ⟨_, _, _, _, safeRequest_of_safe safe k n⟩
  · rw [safeRequest_of_moving off safe, enterSafe_eq, State.modeChanged, stage_eq]
    exact ⟨_, _, _, _, rfl⟩

theorem recorded_told (k : FaultKind) (n : Nat) {s : State} (policy : (s.faults.get k).policyReaction = .safe) :
    let r := (s.faults.get k).raised k.momentary n
    (recorded k r r s).port =
      (stage (.faultChanged k n (if k.momentary then .latched else .active) .safe (bump 255 (s.faults.get k).count))
        s).port := by
  intro r
  have effective : r.effective = .safe := policy
  rw [recorded, effective]
  rfl

/-- Settles O24. -/
theorem raiseEntersSafe : Obligations.RaiseEntersSafe := by
  intro k n s notOff policy old state told cause t holding tilt steer
  let r := (s.faults.get k).raised k.momentary n
  let u := safeRequest k n (recorded k r r s)
  have raised : t = { u with faults := { u.faults.put k r with minTimer := some 200000 }
                             port := { u.port with cause := assertedCause s } } := raise_requesting policy n
  have reported : (recorded k r r s).port = told.port := recorded_told k n policy
  obtain ⟨-, faults⟩ := safeRequest_writes (s := recorded k r r s) notOff k n
  refine ⟨fun notSafe => ?enters, fun safe => ?stays, ?record, fun j other => raise_get_ne k n s other, ?timer,
    ?retained, ?frame⟩
  case enters =>
    obtain ⟨seq, drive, port⟩ := safeRequest_enters (s := recorded k r r s) notOff notSafe k n
    have kept : t.faults.get .steerOvercurrent = (recorded k r r s).faults.get .steerOvercurrent := by
      rw [raised]
      by_cases own : FaultKind.steerOvercurrent = k
      · rw [own]
        exact (get_put_same u.faults k r).trans (get_put_same s.faults k r).symm
      · exact (get_put_ne u.faults r own).trans (safeRequest_get k n _ _)
    refine ⟨?_, ?_, ?_⟩
    · rw [raised]; exact seq
    · rw [kept, raised]
      refine drive.trans ?_
      rw [given_wantedOn, given_wantedOff]
      simp only [beq_iff_eq]
      rfl
    · rw [raised]
      refine congrArg (fun p : Port => { p with cause := assertedCause s }) (port.trans ?_)
      refine (stage_port_congr _ (s := told) (t := recorded k r r s) reported ?_)
      simp [told, recorded]
  case stays =>
    obtain ⟨seq, drive, port⟩ := safeRequest_stays (s := recorded k r r s) safe k n
    rw [raised]
    exact ⟨seq, drive, congrArg (fun p : Port => { p with cause := assertedCause s }) (port.trans reported)⟩
  case record =>
    have effective : r.effective = .safe := policy
    refine (raise_get_same k n s).trans ((startAck_of_safe effective).trans ?_)
    exact congrArg (fun x => ({ r with reaction := x } : FaultRecord)) policy
  case timer => rw [raised]
  case retained =>
    have kept : t.faults.retained = u.faults.retained := by rw [raised]; rfl
    rw [kept, faults]
    rfl
  case frame =>
    obtain ⟨q, d, f, p, frame⟩ := safeRequest_frame k n (recorded k r r s)
    rw [raised, show u = _ from frame]
    rfl

/-! ### Escalation, acknowledgement and clear -/

/-- The record an escalation leaves (R152). -/
def FaultRecord.escalatedNow (r : FaultRecord) : FaultRecord := { r with ackTimer := none, escalated := true }

/-- An escalation is a SAFE request on the state with the escalated record and FAULT_CHANGED (R152). -/
theorem escalate_of_unacknowledged {k : FaultKind} {s : State}
    (escalates : (s.faults.get k).state ≠ .clear ∧ (s.faults.get k).acknowledged = false) :
    escalate k s =
      let r := FaultRecord.escalatedNow (s.faults.get k)
      safeRequest k (s.faults.get k).lastInstance (recorded k r r s) := by
  obtain ⟨stands, unseen⟩ := escalates
  unfold escalate
  dsimp only
  rw [if_pos (by simp [stands, unseen]), stageFault_putFault]
  rfl

theorem escalate_of_acknowledged {k : FaultKind} {s : State}
    (rests : ¬ ((s.faults.get k).state ≠ .clear ∧ (s.faults.get k).acknowledged = false)) :
    escalate k s = putFault k { s.faults.get k with ackTimer := none } s := by
  unfold escalate
  dsimp only
  rw [if_neg]
  simpa using rests

/-- Settles O25: the SAFE request is taken on the state with the escalated record, where `safeRequest_enters` and its
companions say what each mode makes of it. -/
theorem ackTimerExpiry : Obligations.AckTimerExpiry := by
  intro k s n running old escalates told
  have expires : exec (.ackTimerExpiry k) s = .next (escalate k s) := by
    change execAckTimerExpiry k s = _
    rw [execAckTimerExpiry, running]
  refine ⟨escalate k s, expires, fun does => ?_, fun rests => escalate_of_acknowledged rests,
    fun j other => escalate_get_ne k s other, ?timer, ?frame⟩
  case timer =>
    by_cases does : escalates
    · rw [escalate_of_unacknowledged does]
      exact safeRequest_minTimer ..
    · rw [escalate_of_acknowledged does]
      rfl
  case frame =>
    by_cases does : escalates
    · obtain ⟨q, d, f, p, frame⟩ := safeRequest_frame k old.lastInstance
        (recorded k (FaultRecord.escalatedNow old) (FaultRecord.escalatedNow old) s)
      rw [escalate_of_unacknowledged does, frame]
      rfl
    · rw [escalate_of_acknowledged does]
      rfl
  have record := (escalate_get_same k s).trans (if_pos does)
  refine ⟨record, by rw [record]; rfl, ?_⟩
  rw [escalate_of_unacknowledged does]
  dsimp only
  refine ⟨fun off => ?_, fun safe => safeRequest_stays (s := recorded k _ _ s) safe .., fun moving => ?_, fun moving notSafe => ?_⟩
  · rw [safeRequest_of_off (s := recorded k _ _ s) off]
    exact ⟨rfl, rfl, rfl, rfl⟩
  · obtain ⟨mode, faults⟩ := safeRequest_writes (s := recorded k (FaultRecord.escalatedNow old)
      (FaultRecord.escalatedNow old) s) moving k old.lastInstance
    refine ⟨mode, ?_⟩
    rw [faults]
    rfl
  · obtain ⟨-, -, port⟩ := safeRequest_enters (s := recorded k (FaultRecord.escalatedNow old)
      (FaultRecord.escalatedNow old) s) moving notSafe k old.lastInstance
    refine port.trans (stage_port_congr _ (s := told) rfl ?_)
    simp [told, recorded]

/-- A channel that takes the notice of its kind's clear (R134; log entry 22 for the run). -/
theorem clearNotice_eq (c : Channel) :
    c.clearNotice =
      if c.state = .tripped ∧ c.wanted = false then { c with state := .off, duty := 0, applied := 0, overRun := 0 }
      else c := by
  cases state : c.state <;> cases wanted : c.wanted <;>
    simp [Channel.clearNotice, Channel.enterOff, state, wanted]

theorem notifyClear_eq (k : FaultKind) (s : State) :
    notifyClear k s = { s with drive := { s.drive with
      tilt := if k = .tiltOvercurrent then s.drive.tilt.clearNotice else s.drive.tilt
      steer := if k = .steerOvercurrent then s.drive.steer.clearNotice else s.drive.steer } } := by
  unfold notifyClear
  by_cases tilt : k = .tiltOvercurrent
  · simp [tilt]
  · by_cases steer : k = .steerOvercurrent <;> simp [tilt, steer]

/-- Settles O26. -/
theorem ackAndClearFault : Obligations.AckAndClearFault := by
  intro b tag s ack clear noticed
  have zero : b.toNat = 0 ↔ b = 0 := by rw [← BitVec.toNat_inj]; rfl
  refine ⟨by rw [ofCode_eq_none_iff, zero], fun unnamed => ?unnamed, fun k named => ?_⟩
  case unnamed =>
    constructor
    · change answered (ackFault [b] s) = _
      rw [ackFault, show FaultKind.ofCode (byteAt [b] 0) = none from unnamed]
      rfl
    · change answered (clearFault [b] s) = _
      rw [clearFault, show FaultKind.ofCode (byteAt [b] 0) = none from unnamed]
      rfl
  replace named : FaultKind.ofCode (byteAt [b] 0) = some k := named
  have acks : ack = answered (ackFault [b] s) := rfl
  have clears : clear = answered (clearFault [b] s) := rfl
  simp only [ackFault, named] at acks
  simp only [clearFault, named] at clears
  refine ⟨code_eq_of_ofCode named, fun none => ?none, fun stands => ?stands, fun n => ?raised, ?reset,
    fun active => ?active, fun latched => ?latched⟩
  case none => rw [acks, clears, none]; exact ⟨rfl, rfl⟩
  case stands =>
    have taken : ack = answered (putFault k (s.faults.get k).acknowledge s, .plain .accepted 0) := by
      rw [acks]
      cases state : (s.faults.get k).state with
      | clear => exact absurd state stands
      | active | latched => rfl
    exact taken
  case raised => rw [raise_get_same, raised_startAck]
  case reset => rw [cleared_get]; rfl
  case active => rw [clears, active]; rfl
  case latched =>
    rw [clears, latched]
    refine congrArg (fun t => (t, some (Done.plain .accepted 0))) ?_
    unfold clearKind
    dsimp only
    rw [stageFault_putFault, notifyClear_eq, clearNotice_eq, clearNotice_eq]
    rfl

end Sys2Proof.Proofs

/-! The lock drive (R5, R6, R13, R15, R16, R20, R21): a contact's acceptance, the lock drive change it makes, and the
two limits. -/

namespace Sys2Proof.Proofs
open Sys2Proof.Machine

/-! ### What a raise leaves in the sequencer -/

theorem raise_seq_quiet {k : FaultKind} {s : State}
    (quiet : s.seq.mode = .off ∨ (s.faults.get k).policyReaction ≠ .safe) (n : Nat) : (raise k n s).seq = s.seq := by
  rw [raise_quiet quiet]
  simp only [assertLine_keeps, recorded]

theorem raise_seq_of_safe {k : FaultKind} {s : State} (safe : s.seq.mode = .safe) (n : Nat) :
    (raise k n s).seq = s.seq := by
  by_cases policy : (s.faults.get k).policyReaction = .safe
  · rw [raise_requesting policy]
    exact (safeRequest_stays (s := recorded k _ _ s) safe k n).1
  · exact raise_seq_quiet (.inr policy) n

theorem raise_seq_enters {k : FaultKind} {s : State} (off : s.seq.mode ≠ .off) (safe : s.seq.mode ≠ .safe)
    (policy : (s.faults.get k).policyReaction = .safe) (n : Nat) :
    (raise k n s).seq = Sequencer.inSafe s.seq s.safeLatch := by
  rw [raise_requesting policy]
  exact (safeRequest_enters (s := recorded k _ _ s) off safe k n).1

theorem raise_mode_of_policy {k : FaultKind} {s : State} (off : s.seq.mode ≠ .off)
    (policy : (s.faults.get k).policyReaction = .safe) (n : Nat) : (raise k n s).seq.mode = .safe := by
  rw [raise_requesting policy]
  exact (safeRequest_writes (s := recorded k _ _ s) off k n).1

/-- Two sequencers with the same contacts. -/
structure SameContacts (q q' : Sequencer) : Prop where
  lke : q'.lke = q.lke
  lkr : q'.lkr = q.lkr
  lrq : q'.lrq = q.lrq

theorem SameContacts.contact {q q' : Sequencer} (same : SameContacts q q') (l : Line) : q'.contact l = q.contact l := by
  cases l
  · exact same.lke
  · exact same.lkr
  · exact same.lrq

theorem SameContacts.lockDrive {q q' : Sequencer} (same : SameContacts q q') : q'.lockDrive = q.lockDrive :=
  lockDrive_eq_of_level (by rw [same.lke]) (by rw [same.lkr])

/-- A raise leaves the sequencer, or brings it into SAFE (R22). -/
theorem raise_seq (k : FaultKind) (n : Nat) (s : State) :
    (raise k n s).seq = s.seq ∨ (raise k n s).seq = Sequencer.inSafe s.seq s.safeLatch := by
  by_cases quiet : s.seq.mode = .off ∨ (s.faults.get k).policyReaction ≠ .safe
  · exact .inl (raise_seq_quiet quiet n)
  obtain ⟨off, policy⟩ := not_or.1 quiet
  by_cases safe : s.seq.mode = .safe
  · exact .inl (raise_seq_of_safe safe n)
  · exact .inr (raise_seq_enters off safe (not_not.1 policy) n)

theorem raise_contacts (k : FaultKind) (n : Nat) (s : State) : SameContacts s.seq (raise k n s).seq := by
  rcases raise_seq k n s with stays | enters
  · rw [stays]; exact ⟨rfl, rfl, rfl⟩
  · rw [enters]; exact ⟨rfl, rfl, rfl⟩

theorem raise_holdOff (k : FaultKind) (n : Nat) (s : State) : (raise k n s).seq.holdOff = s.seq.holdOff := by
  rcases raise_seq k n s with stays | enters
  · rw [stays]
  · rw [enters]; rfl

/-- A kind whose floor is SAFE has policy SAFE (R155). -/
theorem policy_of_floor {m : FaultMonitor} (safe : FaultsSafe m) {k : FaultKind} (floor : k.floor = .safe) :
    (m.get k).policyReaction = .safe :=
  eq_safe_of_code_le (floor ▸ safe.policy k)

/-! ### The ends a lock drive change makes -/

/-- The record an end leaves (R149). -/
def FaultRecord.ended (r : FaultRecord) : FaultRecord := if r.state = .active then { r with state := .latched } else r

/-- The state in which a lock drive change has ended the kinds it ends (R6, R13). -/
def endsTold (before after : LockDrive) (s : State) : State :=
  let s := if before = .conflict ∧ after ≠ .conflict then endFault .lockContactsConflict s else s
  if before ≠ .engaged ∧ after = .engaged then endFault .lockPositionLost s else s

section
variable (before after : LockDrive) (s : State)

theorem endsTold_seq : (endsTold before after s).seq = s.seq := by
  unfold endsTold
  dsimp only
  split <;> split <;> simp

theorem endsTold_get_conflict :
    (endsTold before after s).faults.get .lockContactsConflict =
      if before = .conflict ∧ after ≠ .conflict then FaultRecord.ended (s.faults.get .lockContactsConflict)
      else s.faults.get .lockContactsConflict := by
  have other (u : State) : (endFault .lockPositionLost u).faults.get .lockContactsConflict =
      u.faults.get .lockContactsConflict := endFault_get_ne _ _ (by decide)
  unfold endsTold
  dsimp only
  split <;> split <;> simp only [other, endFault_get_same, FaultRecord.ended]

theorem endsTold_get_position :
    (endsTold before after s).faults.get .lockPositionLost =
      if before ≠ .engaged ∧ after = .engaged then FaultRecord.ended (s.faults.get .lockPositionLost)
      else s.faults.get .lockPositionLost := by
  have other (u : State) : (endFault .lockContactsConflict u).faults.get .lockPositionLost =
      u.faults.get .lockPositionLost := endFault_get_ne _ _ (by decide)
  unfold endsTold
  dsimp only
  split <;> split <;> simp only [other, endFault_get_same, FaultRecord.ended]

theorem endsTold_get_ne {k : FaultKind} (position : k ≠ .lockPositionLost) (conflict : k ≠ .lockContactsConflict) :
    (endsTold before after s).faults.get k = s.faults.get k := by
  unfold endsTold
  dsimp only
  split <;> split <;> simp only [endFault_get_ne _ _ position, endFault_get_ne _ _ conflict]

end

/-! ### The lock drive change by mode -/

theorem lockDriveChange_into_conflict {s : State} (safe : FaultsSafe s.faults) (before : LockDrive) :
    lockDriveChange before .conflict s = raise .lockContactsConflict 0 s := by
  have rests : ∀ u : State, (u.seq.mode = .off ∨ u.seq.mode = .safe) →
      (match u.seq.mode with
        | .held => if before = .engaged ∧ (LockDrive.conflict = .moving ∨ LockDrive.conflict = .released) then
            raise .lockPositionLost 0 u else u
        | .releasing => if LockDrive.conflict = .released then enterMode .active .lockContact u else u
        | .engaging => if LockDrive.conflict = .engaged then enterHeld .lockContact u else u
        | .off => u | .active => u | .capturing => u | .safe => u) = u := by
    rintro u (mode | mode) <;> rw [mode]
  refine rests (raise .lockContactsConflict 0 s) ?_
  by_cases off : s.seq.mode = .off
  · exact .inl ((congrArg Sequencer.mode (raise_seq_quiet (.inl off) 0)).trans off)
  · exact .inr (raise_mode_of_policy off (policy_of_floor safe rfl) 0)

/-- A lock drive change into another state than CONFLICT: the ends, then the mode's own handling (R13, R15, R20). -/
theorem lockDriveChange_of_clear {before after : LockDrive} (changes : before ≠ after) (clear : after ≠ .conflict)
    (s : State) :
    lockDriveChange before after s =
      match s.seq.mode with
      | .held => if before = .engaged ∧ (after = .moving ∨ after = .released) then
          raise .lockPositionLost 0 (endsTold before after s) else endsTold before after s
      | .releasing => if after = .released then enterMode .active .lockContact (endsTold before after s)
          else endsTold before after s
      | .engaging => if after = .engaged then enterHeld .lockContact (endsTold before after s)
          else endsTold before after s
      | .off | .active | .capturing | .safe => endsTold before after s := by
  have told : (if after = .engaged then endFault .lockPositionLost (conflictChange before after s)
      else conflictChange before after s) = endsTold before after s := by
    unfold conflictChange endsTold
    dsimp only
    rw [if_neg clear, if_congr (and_iff_left clear) rfl rfl]
    refine if_congr ⟨fun seated => ⟨fun was => changes (was.trans seated.symm), seated⟩, fun both => both.2⟩ rfl rfl
  unfold lockDriveChange
  dsimp only
  cases mode : s.seq.mode <;> rw [told, endsTold_seq, mode]

/-! ### Contacts -/

theorem contact_setContact (q : Sequencer) (l : Line) (c : Contact) : (q.setContact l c).contact l = c := by
  cases l <;> rfl

theorem setContact_self (q : Sequencer) (l : Line) : q.setContact l (q.contact l) = q := by cases l <;> rfl

/-- The state whose debounced level of a line has been accepted. -/
def acceptedAt (l : Line) (s : State) : State := { s with seq := s.seq.setContact l (s.seq.contact l).accept }

theorem acceptContact_eq (l : Line) (s : State) :
    acceptContact l s =
      if s.seq.lockDrive = (acceptedAt l s).seq.lockDrive then acceptedAt l s
      else lockDriveChange s.seq.lockDrive (acceptedAt l s).seq.lockDrive (acceptedAt l s) := rfl

theorem exec_contactAccepted {l : Line} {s : State} {n : Nat} (timed : (s.seq.contact l).debounce = some n) :
    exec (.contactAccepted l) s = .next (acceptContact l s) := by
  change execContactAccepted l s = _
  rw [execContactAccepted, timed]

theorem endFault_contacts (k : FaultKind) (s : State) : SameContacts s.seq (endFault k s).seq := by
  rw [(endFault_keeps k s).2.2.2.2.1]
  exact ⟨rfl, rfl, rfl⟩

theorem SameContacts.trans {a b c : Sequencer} (ab : SameContacts a b) (bc : SameContacts b c) : SameContacts a c :=
  ⟨bc.lke.trans ab.lke, bc.lkr.trans ab.lkr, bc.lrq.trans ab.lrq⟩

theorem enterMode_contacts (m : Mode) (c : ModeCause) (s : State) : SameContacts s.seq (enterMode m c s).seq := by
  rw [enterMode, changeMode_eq, State.modeChanged_seq]
  exact ⟨rfl, rfl, rfl⟩

theorem requestSwap_seq (s : State) : (requestSwap s).seq = s.seq := by simp

theorem enterHeld_contacts (c : ModeCause) (s : State) : SameContacts s.seq (enterHeld c s).seq := by
  rw [enterHeld_eq, requestSwap_seq, State.modeChanged_seq]
  exact ⟨rfl, rfl, rfl⟩

/-- A lock drive change moves no contact. -/
theorem lockDriveChange_contacts (before after : LockDrive) (s : State) :
    SameContacts s.seq (lockDriveChange before after s).seq := by
  have conflict : SameContacts s.seq (conflictChange before after s).seq := by
    unfold conflictChange
    split
    · exact raise_contacts ..
    · split
      · exact endFault_contacts ..
      · exact ⟨rfl, rfl, rfl⟩
  have ended : SameContacts s.seq (if after = .engaged then endFault .lockPositionLost (conflictChange before after s)
      else conflictChange before after s).seq := by
    split
    · exact conflict.trans (endFault_contacts ..)
    · exact conflict
  unfold lockDriveChange
  dsimp only
  refine ended.trans ?_
  generalize (if after = .engaged then endFault .lockPositionLost (conflictChange before after s)
    else conflictChange before after s) = u
  have same : SameContacts u.seq u.seq := ⟨rfl, rfl, rfl⟩
  split
  · split
    · exact raise_contacts ..
    · exact same
  · split
    · exact enterMode_contacts ..
    · exact same
  · split
    · exact enterHeld_contacts ..
    · exact same
  all_goals exact same

theorem acceptContact_contacts (l : Line) (s : State) :
    SameContacts (acceptedAt l s).seq (acceptContact l s).seq := by
  rw [acceptContact_eq]
  split
  · exact ⟨rfl, rfl, rfl⟩
  · exact lockDriveChange_contacts ..

/-- Settles O20. -/
theorem contactChanges : Obligations.ContactChanges := by
  intro l closed s c moved accepted
  have lines (c' : Contact) (is : (match s.phase with
      | .running => c.move closed
      | .powerOn => { c with line := closed }
      | .pin => { c with line := closed }
      | .soft _ => { c with line := closed }) = c') :
      exec (.contactLineChange l closed) s = .next { s with seq := s.seq.setContact l c' } := by
    subst is
    rfl
  refine ⟨fun running line level => ?away, fun running line level => ?back, fun running line => ?stands,
    fun reset => ?reset, fun n timed => ?accepts⟩
  case away => exact lines _ (by rw [running]; dsimp only; rw [Contact.move, if_neg line, if_neg level])
  case back => exact lines _ (by rw [running]; dsimp only; rw [Contact.move, if_neg line, if_pos level])
  case stands =>
    refine (lines c (by rw [running]; simp [Contact.move, line])).trans ?_
    rw [setContact_self]
  case reset =>
    refine lines _ ?_
    cases phase : s.phase with
    | running => exact absurd phase reset
    | powerOn | pin | soft _ => rfl
  case accepts =>
    have same := acceptContact_contacts l s
    refine ⟨acceptContact l s, exec_contactAccepted timed, (same.contact l).trans (contact_setContact _ _ _),
      same.lockDrive, fun stays => ?_, ?_⟩
    · exact (acceptContact_eq l s).trans (if_pos stays.symm)
    · simp

/-- What the acceptance of a contact change leaves, case by case (R6, R13, R15, R20): the pin lost in HELD, ACTIVE on
its withdrawal, HELD on its seating, the conflict, and else the ends alone. -/
structure AcceptCases (before after : LockDrive) (taken t : State) : Prop where
  left : taken.seq.mode = .held ∧ before = .engaged ∧ (after = .moving ∨ after = .released) →
    t = raise .lockPositionLost 0 taken
  withdrawn : taken.seq.mode = .releasing ∧ before ≠ .released ∧ after = .released →
    t = enterMode .active .lockContact (endsTold before after taken)
  seated : taken.seq.mode = .engaging ∧ before ≠ .engaged ∧ after = .engaged →
    t = enterHeld .lockContact (endsTold before after taken)
  conflicts : before ≠ .conflict ∧ after = .conflict → t = raise .lockContactsConflict 0 taken
  rests : ¬ (taken.seq.mode = .held ∧ before = .engaged ∧ (after = .moving ∨ after = .released)) →
    ¬ (taken.seq.mode = .releasing ∧ before ≠ .released ∧ after = .released) →
    ¬ (taken.seq.mode = .engaging ∧ before ≠ .engaged ∧ after = .engaged) →
    ¬ (before ≠ .conflict ∧ after = .conflict) → t = endsTold before after taken

theorem endsTold_of_neither {before after : LockDrive} (conflict : ¬ (before = .conflict ∧ after ≠ .conflict))
    (seated : ¬ (before ≠ .engaged ∧ after = .engaged)) (s : State) : endsTold before after s = s := by
  unfold endsTold
  dsimp only
  rw [if_neg conflict, if_neg seated]

theorem lockDriveChange_cases {before after : LockDrive} {s : State} (safe : FaultsSafe s.faults)
    (changes : before ≠ after) : AcceptCases before after s (lockDriveChange before after s) := by
  by_cases conflict : after = .conflict
  · subst conflict
    have into := lockDriveChange_into_conflict safe before
    exact
      { left := fun h => absurd h.2.2 (by decide)
        withdrawn := fun h => absurd h.2.2 (by decide)
        seated := fun h => absurd h.2.2 (by decide)
        conflicts := fun _ => into
        rests := fun _ _ _ stays => absurd ⟨changes, rfl⟩ stays }
  have whole := lockDriveChange_of_clear changes conflict s
  constructor
  case left =>
    rintro ⟨mode, engaged, lost⟩
    rw [mode] at whole
    refine whole.trans ((if_pos ⟨engaged, lost⟩).trans ?_)
    rw [endsTold_of_neither]
    · rw [engaged]; exact fun both => absurd both.1 (by decide)
    · exact fun both => both.1 engaged
  case withdrawn =>
    rintro ⟨mode, -, released⟩
    rw [mode] at whole
    exact whole.trans (if_pos released)
  case seated =>
    rintro ⟨mode, -, engaged⟩
    rw [mode] at whole
    exact whole.trans (if_pos engaged)
  case conflicts => exact fun both => absurd both.2 conflict
  case rests =>
    intro left withdrawn seated _
    refine whole.trans ?_
    cases mode : s.seq.mode with
    | held => exact if_neg fun lost => left ⟨mode, lost⟩
    | releasing => exact if_neg fun released => withdrawn ⟨mode, fun was => changes (was.trans released.symm), released⟩
    | engaging => exact if_neg fun engaged => seated ⟨mode, fun was => changes (was.trans engaged.symm), engaged⟩
    | off | active | capturing | safe => rfl

theorem acceptContact_cases {l : Line} {s : State} (safe : FaultsSafe s.faults) :
    AcceptCases s.seq.lockDrive (acceptedAt l s).seq.lockDrive (acceptedAt l s) (acceptContact l s) := by
  rw [acceptContact_eq]
  split
  case isFalse changes => exact lockDriveChange_cases (s := acceptedAt l s) safe changes
  case isTrue stays =>
    generalize (acceptedAt l s).seq.lockDrive = after at stays
    rw [stays]
    exact
      { left := fun ⟨_, engaged, lost⟩ => by rcases lost with lost | lost <;> exact absurd (engaged.symm.trans lost) (by decide)
        withdrawn := fun h => absurd h.2.2 h.2.1
        seated := fun h => absurd h.2.2 h.2.1
        conflicts := fun h => absurd h.2 h.1
        rests := fun _ _ _ _ => (endsTold_of_neither (fun h => h.2 h.1) (fun h => h.1 h.2) _).symm }

/-- Outside the two raises the records are those of the ends. -/
theorem AcceptCases.faults {before after : LockDrive} {s t : State} (cs : AcceptCases before after s t)
    (left : ¬ (s.seq.mode = .held ∧ before = .engaged ∧ (after = .moving ∨ after = .released)))
    (conflicts : ¬ (before ≠ .conflict ∧ after = .conflict)) : t.faults = (endsTold before after s).faults := by
  by_cases withdrawn : s.seq.mode = .releasing ∧ before ≠ .released ∧ after = .released
  · rw [cs.withdrawn withdrawn, enterMode, changeMode_eq, State.modeChanged_faults]
  by_cases seated : s.seq.mode = .engaging ∧ before ≠ .engaged ∧ after = .engaged
  · rw [cs.seated seated, enterHeld_eq]
    simp
  · rw [cs.rests left withdrawn seated conflicts]

/-- Settles O21: the whole state of each case by `AcceptCases`, then each kind's record and the sequencer from it. -/
theorem lockDriveChanges : Obligations.LockDriveChanges := by
  intro l s n timed safe c accepted before after ended taken unconflicted told active held
  have cs : AcceptCases before after taken (acceptContact l s) := acceptContact_cases safe
  have same := acceptContact_contacts l s
  have ends : told = endsTold before after taken := rfl
  have mode : taken.seq.mode = s.seq.mode := (setContact_keeps s.seq l _).1
  refine ⟨acceptContact l s, exec_contactAccepted timed, same.lockDrive, ?_⟩
  have frame := acceptContact_keeps l s
  generalize acceptContact l s = t at cs frame same
  intro raised left withdrawn seated conflicts
  have quiet := cs.faults
  obtain ⟨onLeft, onWithdrawn, onSeated, onConflicts, onRest⟩ := cs
  rw [mode] at quiet onLeft onWithdrawn onSeated onRest
  have accept (notLeft : ¬ left) (notWithdrawn : ¬ withdrawn) (notSeated : ¬ seated) (calm : ¬ conflicts) :
      t.seq = accepted := by
    rw [onRest notLeft notWithdrawn notSeated calm]
    exact endsTold_seq before after taken
  have raises (k : FaultKind) (lasting : k.momentary = false) (is : t = raise k 0 taken) : raised k := by
    simp only [raised]
    rw [is, raise_get_same, raised_startAck, lasting]
    exact ⟨rfl, rfl⟩
  have entersSafe (k : FaultKind) (floor : k.floor = .safe) (off : s.seq.mode ≠ .off) (is : t = raise k 0 taken) :
      t.seq.mode = .safe := by
    rw [is]
    exact raise_mode_of_policy (fun is => off (mode.symm.trans is)) (policy_of_floor safe floor) 0
  have conflictStays (k : FaultKind) (other : k ≠ .lockContactsConflict) (is : conflicts) :
      t.faults.get k = s.faults.get k := by
    rw [onConflicts is]
    exact raise_get_ne _ _ _ other
  have leftStays (k : FaultKind) (other : k ≠ .lockPositionLost) (is : left) : t.faults.get k = s.faults.get k := by
    rw [onLeft is]
    exact raise_get_ne _ _ _ other
  refine ⟨fun is => ⟨onLeft is, ?_, raises _ rfl (onLeft is)⟩, fun is => ?withdrawn, fun is => ?seated,
    fun is => ⟨onConflicts is, raises _ rfl (onConflicts is), fun off => ?_⟩, onRest, fun was leaves => ?conflictEnds,
    fun was into => ?positionEnds, fun notLeft away => ?positionStays, fun was calm => ?conflictStays,
    fun k position conflict => ?others, fun resting => ?resting, fun moving calm => ?moving,
    fun held calm notLeft => ?held, fun releasing calm stays => ?releasing, fun engaging calm stays => ?engaging, ?_⟩
  · exact entersSafe _ rfl (by rw [is.1]; decide) (onLeft is)
  case withdrawn =>
    rw [onWithdrawn is, enterMode, changeMode_eq, endsTold_seq]
    rfl
  case seated =>
    have entered := onSeated is
    rw [enterHeld_eq, endsTold_seq] at entered
    refine ⟨entered, ?_⟩
    rw [entered]
    exact requestSwap_settled _
  · exact entersSafe _ rfl off (onConflicts is)
  case conflictEnds =>
    have notLeft : ¬ left := fun is => absurd (is.2.1.symm.trans was) (by decide)
    rw [quiet notLeft fun is => is.1 was, endsTold_get_conflict, if_pos ⟨was, leaves⟩]
    rfl
  case positionEnds =>
    have notLeft : ¬ left := fun is => was is.2.1
    have calm : ¬ conflicts := fun is => absurd (is.2.symm.trans into) (by decide)
    rw [quiet notLeft calm, endsTold_get_position, if_pos ⟨was, into⟩]
    rfl
  case positionStays =>
    by_cases is : conflicts
    · exact conflictStays _ (by decide) is
    · rw [quiet notLeft is, endsTold_get_position, if_neg fun both => away.elim (fun h => h both.2) both.1]
  case conflictStays =>
    by_cases is : left
    · exact leftStays _ (by decide) is
    · rw [quiet is fun both => calm both.2, endsTold_get_conflict, if_neg fun both => was both.1]
  case others =>
    by_cases isLeft : left
    · exact leftStays k position isLeft
    by_cases is : conflicts
    · exact conflictStays k conflict is
    · rw [quiet isLeft is, endsTold_get_ne _ _ _ position conflict]
  case resting =>
    by_cases is : conflicts
    · rw [onConflicts is]
      rcases resting with off | safe
      · exact raise_seq_quiet (.inl (mode.trans off)) 0
      · exact raise_seq_of_safe (mode.trans safe) 0
    · refine accept (fun h => ?_) (fun h => ?_) (fun h => ?_) is <;> rw [h.1] at resting <;>
        exact absurd resting (by decide)
  case moving =>
    refine accept (fun h => ?_) (fun h => ?_) (fun h => ?_) fun h => calm h.2 <;> rw [h.1] at moving <;>
      exact absurd moving (by decide)
  case held =>
    refine accept notLeft (fun h => ?_) (fun h => ?_) fun h => calm h.2 <;> rw [h.1] at held <;>
      exact absurd held (by decide)
  case releasing =>
    refine accept (fun h => ?_) (fun h => stays h.2.2) (fun h => ?_) fun h => calm h.2 <;> rw [h.1] at releasing <;>
      exact absurd releasing (by decide)
  case engaging =>
    refine accept (fun h => ?_) (fun h => ?_) (fun h => stays h.2.2) fun h => calm h.2 <;> rw [h.1] at engaging <;>
      exact absurd engaging (by decide)
  simp only [frame, and_self]

/-! ### The two limits -/

theorem exec_releaseLimitExpiry {s : State} {n : Nat} (mode : s.seq.mode = .releasing)
    (timed : s.seq.lockLimit = some n) : exec .releaseLimitExpiry s = .next (giveUpRelease s) := by
  change execReleaseLimitExpiry s = _
  rw [execReleaseLimitExpiry, mode, timed]

theorem exec_engageLimitExpiry {s : State} {n : Nat} (mode : s.seq.mode = .engaging)
    (timed : s.seq.lockLimit = some n) : exec .engageLimitExpiry s = .next (failEngagement s) := by
  change execEngageLimitExpiry s = _
  rw [execEngageLimitExpiry, mode, timed]

/-- The state with the hold-off of a given-up release running (R16). -/
def holdingOff (s : State) : State := { s with seq := { s.seq with holdOff := some 1000000 } }

/-- A release that is given up at its limit: into ENGAGING, or at once into HELD, then the raise (R16). -/
theorem giveUpRelease_eq (s : State) :
    giveUpRelease s = raise .lockReleaseTimeout 0 (enterEngaging .timeout (holdingOff s)) := rfl

/-- A failed engagement below the third begins the capture again (R21). -/
theorem failEngagement_of_few {s : State} (few : s.seq.attemptCount < 2) :
    failEngagement s = enterCapturing .timeout
      { s with seq := { s.seq with attemptCount := s.seq.attemptCount + 1, lockLimit := none } } := by
  have count : bump 3 s.seq.attemptCount = s.seq.attemptCount + 1 := if_pos (by omega)
  unfold failEngagement
  dsimp only
  rw [count, if_pos (by omega)]

/-- The third failed engagement raises LOCK_ENGAGE_FAILED (R21). -/
theorem failEngagement_of_third {s : State} (third : 2 ≤ s.seq.attemptCount) :
    failEngagement s = raise .lockEngageFailed 0 { s with seq := { s.seq with attemptCount := 3, lockLimit := none } } := by
  have count : bump 3 s.seq.attemptCount = 3 := by rw [bump]; split <;> omega
  unfold failEngagement
  dsimp only
  rw [count, if_neg (by omega)]

/-- Settles O22: the mode change at the limit is read off the entries, and the raise after it leaves the sequencer
unless the kind's policy is SAFE. -/
theorem lockLimitExpiries : Obligations.LockLimitExpiries := by
  intro s n timed safe k policy framed waiting engaging held given
  refine ⟨fun mode => ⟨giveUpRelease s, exec_releaseLimitExpiry mode timed, ?_⟩,
    fun mode => ⟨failEngagement s, exec_engageLimitExpiry mode timed, fun few => ?few, fun third => ?third, ?_⟩⟩
  case few =>
    rw [failEngagement_of_few few]
    exact enterCapturing_of_seq s { s.seq with attemptCount := s.seq.attemptCount + 1, lockLimit := none } rfl rfl _
  case third =>
    have off : s.seq.mode ≠ .off := by rw [mode]; decide
    have notSafe : s.seq.mode ≠ .safe := by rw [mode]; decide
    have seq := raise_seq_enters (s := { s with seq := { s.seq with attemptCount := 3, lockLimit := none } }) off notSafe
      (policy_of_floor safe (k := .lockEngageFailed) rfl) 0
    rw [failEngagement_of_third third, seq, raise_get_same, raised_startAck]
    exact ⟨rfl, rfl, rfl, rfl, rfl⟩
  · have entered : enterEngaging .timeout (holdingOff s) = if s.seq.lockDrive = .engaged then
        requestSwap (given.modeChanged .lockContact held false true) else given := by
      by_cases seated : s.seq.lockDrive = .engaged
      · rw [if_pos seated]
        exact enterEngaging_of_seated waiting waiting.seq rfl rfl _ seated
      · rw [if_neg seated]
        exact enterEngaging_of_loose waiting waiting.seq rfl rfl _ seated
    have whole : giveUpRelease s = raise k 0 (if s.seq.lockDrive = .engaged then
        requestSwap (given.modeChanged .lockContact held false true) else given) := by
      rw [giveUpRelease_eq, entered]
    have faults : (if s.seq.lockDrive = .engaged then requestSwap (given.modeChanged .lockContact held false true)
        else given).faults = s.faults := by
      rw [← entered]
      simp [holdingOff]
    have seq : (if s.seq.lockDrive = .engaged then requestSwap (given.modeChanged .lockContact held false true)
        else given).seq = if s.seq.lockDrive = .engaged then held else engaging := by
      split
      · rw [requestSwap_seq, State.modeChanged_seq]
      · exact State.modeChanged_seq ..
    generalize (if s.seq.lockDrive = .engaged then requestSwap (given.modeChanged .lockContact held false true)
      else given) = u at whole faults seq ⊢
    have off : u.seq.mode ≠ .off := by rw [seq]; split <;> exact nofun
    have stays (lasting : policy ≠ .safe) : (giveUpRelease s).seq = u.seq := by
      rw [whole]
      exact raise_seq_quiet (.inr (by rw [faults]; exact lasting)) 0
    refine ⟨?_, whole, fun lasting loose => ?_, fun lasting seated => ?_, fun safePolicy => ?_, ?_, ?_, ?_⟩
    · rw [whole, raise_holdOff, seq]
      split <;> rfl
    · rw [stays lasting, seq, if_neg loose]
      exact ⟨rfl, rfl, rfl⟩
    · rw [stays lasting, seq, if_pos seated]
      exact ⟨rfl, rfl, rfl⟩
    · rw [whole]
      exact raise_mode_of_policy off (by rw [faults]; exact safePolicy) 0
    · rw [whole, raise_get_same, raised_startAck]
      rfl
    · rw [whole, raise_get_same, raised_startAck, faults]
    · simp [framed]
  · simp [framed]

end Sys2Proof.Proofs

/-! The four LOAD directives (R57 to R61). -/

namespace Sys2Proof.Proofs
open Sys2Proof.Machine

/-- The count of the values out of range, as a count over the indices. -/
theorem outside_eq_countP (lo hi : Int) (f : Nat → Int) (n : Nat) :
    outside lo hi f n = (List.range n).countP fun i => decide (f i < lo ∨ hi < f i) := by
  induction n with
  | zero => rfl
  | succ n ih => rw [outside, ih, List.range_succ, List.countP_append, List.countP_singleton]; simp

theorem clampNat_eq_max_min {lo hi : Nat} (range : lo ≤ hi) (x : Nat) : clampNat lo hi x = max lo (min hi x) := by
  unfold clampNat
  split
  · omega
  · split <;> omega

/-- A LOAD directive while no commit is pending (R57). -/
theorem load_of_free {s : State} (free : s.tables.commitPending = false) (write : Bank → Bank) (n : Nat) :
    load write n s =
      ({ s with tables := { s.tables with pendingBank := write s.tables.pendingBank } }, .clamped n) := by
  unfold load
  rw [free]
  rfl

theorem load_of_pending {s : State} (pending : s.tables.commitPending = true) (write : Bank → Bank) (n : Nat) :
    load write n s = (s, .plain .pendingCommit 0) := by
  unfold load
  rw [if_pos pending]

/-! ### LOAD_TUNING -/

theorem tuningRanges_le : ∀ r ∈ tuningRanges, r.1 ≤ r.2 := by decide

/-- A field of the tuning record, clamped to its range, with its count. -/
theorem tuningField_eq (body : List Byte) {i : Nat} (h : i < 23) :
    tuningField body i =
      let r := tuningRanges.getD i (0, 0)
      (max r.1 (min r.2 (unsignedAt body (2 * i))),
        if unsignedAt body (2 * i) < r.1 ∨ r.2 < unsignedAt body (2 * i) then 1 else 0) := by
  have inTable : i < tuningRanges.length := h
  have range := tuningRanges_le _ (List.getElem_mem inTable)
  unfold tuningField clampCount
  rw [List.getD_eq_getElem _ _ inTable, List.getD_eq_getElem _ _ inTable]
  dsimp only
  rw [clampNat_eq_max_min range]

theorem tuningClamped_eq (body : List Byte) {n : Nat} (h : n ≤ 23) :
    tuningClamped body n = (List.range n).countP fun i =>
      decide (unsignedAt body (2 * i) < (tuningRanges.getD i (0, 0)).1 ∨
        (tuningRanges.getD i (0, 0)).2 < unsignedAt body (2 * i)) := by
  induction n with
  | zero => rfl
  | succ n ih =>
    rw [tuningClamped, ih (by omega), tuningField_eq body (by omega), List.range_succ, List.countP_append,
      List.countP_singleton]
    simp

/-! ### LOAD_MAP -/

theorem mapAt_writeRows (b : Bank) (body : List Byte) (first count : Nat) {i j : Nat} (hi : i < 8) (hj : j < 9) :
    { b with leanMap := writeRows body first count b.leanMap }.mapAt i j =
      if first ≤ i ∧ i < first + count then clampInt (-4500) 4500 (signedAt body (2 + 18 * (i - first) + 2 * j))
      else b.mapAt i j := by
  have place : 2 + 2 * (9 * (i - first) + j) = 2 + 18 * (i - first) + 2 * j := by omega
  unfold Bank.mapAt
  rw [writeRows, entry_tableOf _ _ hi]
  split
  · rw [entry_tableOf _ _ hj, mapEntry, place]
  · rw [entry_of_lt b.leanMap hi]
    rfl

/-! ### The four directives -/

/-- Whether the rows a LOAD_MAP carries lie within the map (R59). -/
def RowsOk (body : List Byte) : Prop :=
  byteAt body 0 ≤ 7 ∧ 1 ≤ byteAt body 1 ∧ byteAt body 1 ≤ 8 ∧ byteAt body 0 + byteAt body 1 ≤ 8

theorem loadMap_of_rows {body : List Byte} (rows : RowsOk body) (s : State) :
    loadMap body s = load (fun b => { b with leanMap := writeRows body (byteAt body 0) (byteAt body 1) b.leanMap })
      (outside (-4500) 4500 (mapEntry body) (9 * byteAt body 1)) s := by
  unfold loadMap
  exact if_pos rows

/-- Settles O29. -/
theorem loadsWritePendingBank : Obligations.LoadsWritePendingBank := by
  intro d tag body s loads r first count rowsOk old new out answer column ranges lo hi field
  have delivered : (d = .loadMap → rowsOk) → ∃ write n, r = answered (load write n s) := fun rows => by
    rcases loads with rfl | rfl | rfl | rfl
    · exact ⟨_, _, rfl⟩
    · exact ⟨_, _, congrArg answered (loadMap_of_rows (rows rfl) s)⟩
    · exact ⟨_, _, rfl⟩
    · exact ⟨_, _, rfl⟩
  refine ⟨fun isMap bad => ?bad, fun rows pending => ?pending, fun rows free =>
    ⟨?frame, fun isTuning => ?tuning, fun isAxes => ?axes, fun isSchedule => ?schedule, fun isMap => ?map⟩⟩
  case bad =>
    subst isMap
    exact congrArg answered (if_neg bad)
  case pending =>
    obtain ⟨write, n, done⟩ := delivered rows
    rw [done, load_of_pending pending]
    rfl
  case frame =>
    obtain ⟨write, n, done⟩ := delivered rows
    simp only [new]
    rw [done, load_of_free free]
    rfl
  case tuning =>
    subst isTuning
    have done : r = answered (load (fun b => { b with tuning := tuningOf body }) (tuningClamped body 23) s) := rfl
    have fields : ∀ i, i < 23 → (tuningField body i).1 = field i := fun i h =>
      congrArg Prod.fst (tuningField_eq body h)
    have record : tuningOf body =
        { kp := field 0, kd := field 1, kdSafe := field 2, tmaxTilt := field 3, slewTilt := field 4,
          tmaxSteer := field 5, slewSteer := field 6, ls := field 7, vRel := field 8, vCap := field 9,
          captureBand := field 10, captureRate := field 11, degradeCap := field 12, ktTilt := field 13,
          ktSteer := field 14, iLimitTilt := field 15, iLimitSteer := field 16, tripCurrent := field 17,
          kpi := field 18, ki := field 19, supplyLow := field 20, supplyHigh := field 21,
          hotLimit := field 22 } := by
      unfold tuningOf
      dsimp only
      congr 1 <;> (apply fields; decide)
    rw [load_of_free free, tuningClamped_eq body le_rfl] at done
    refine ⟨?_, congrArg Prod.snd done⟩
    rw [← record]
    exact congrArg (fun r : State × Option Done => r.1.tables.pendingBank) done
  case axes =>
    subst isAxes
    have done : r = answered (loadAxes body s) := rfl
    rw [loadAxes, load_of_free free, outside_eq_countP, outside_eq_countP] at done
    have banked : new = _ := congrArg (fun r : State × Option Done => r.1.tables.pendingBank) done
    refine ⟨?_, fun i hi => ?_, fun j hj => ?_, congrArg Prod.snd done⟩
    · rw [banked]; rfl
    · rw [banked]; exact entry_tableOf _ _ hi
    · rw [banked]; exact entry_tableOf _ _ hj
  case schedule =>
    subst isSchedule
    have done : r = answered (loadSchedule body s) := rfl
    rw [loadSchedule, load_of_free free, outside_eq_countP, outside_eq_countP, outside_eq_countP,
      outside_eq_countP] at done
    have banked : new = _ := congrArg (fun r : State × Option Done => r.1.tables.pendingBank) done
    refine ⟨?_, fun k hk => ?_, congrArg Prod.snd done⟩
    · rw [banked]; rfl
    · rw [banked]; exact entry_tableOf _ _ hk
  case map =>
    subst isMap
    have done : r = answered (loadMap body s) := rfl
    rw [loadMap_of_rows (rows rfl), load_of_free free, outside_eq_countP] at done
    have banked : new = _ := congrArg (fun r : State × Option Done => r.1.tables.pendingBank) done
    refine ⟨?_, fun i j hi hj => ?_, congrArg Prod.snd done⟩
    · rw [banked]; rfl
    · rw [banked]; exact mapAt_writeRows _ _ _ _ hi hj

end Sys2Proof.Proofs

/-! The bus directives (R68, R70, R72, R73, R80, R81): SET_DEVICE, SET_BUS and PASS_THROUGH as it is taken. -/

namespace Sys2Proof.Proofs
open Sys2Proof.Machine

/-! ### The fields of a SET_DEVICE body -/

/-- 1 where a value lies outside lo..hi. -/
def outOf (lo hi x : Nat) : Nat := if x < lo ∨ hi < x then 1 else 0

theorem clampCount_eq {lo hi : Nat} (range : lo ≤ hi) (x : Nat) :
    clampCount lo hi x = (max lo (min hi x), outOf lo hi x) := by
  rw [clampCount, clampNat_eq_max_min range]
  rfl

theorem clampCount_zero (hi x : Nat) : clampCount 0 hi x = (min hi x, outOf 0 hi x) := by
  rw [clampCount_eq (Nat.zero_le _), Nat.zero_max]

theorem raiseLength_eq (least n : Nat) : raiseLength least n = (max n least, outOf 0 n least) := by
  unfold raiseLength outOf
  by_cases short : n < least
  · rw [if_pos short, if_pos (.inr short), max_eq_right (by omega)]
  · rw [if_neg short, if_neg (by omega), max_eq_left (by omega)]

theorem outOf_le (lo hi x : Nat) : outOf lo hi x ≤ 1 := by
  unfold outOf
  split <;> omega

theorem ofCode_min (n : Nat) : Quantity.ofCode (min 3 n) = Quantity.ofCode n := by
  match n with
  | 0 | 1 | 2 | 3 => rfl
  | n + 4 => rw [min_eq_left (by omega)]; rfl

/-- Half the width of a quantity's range. -/
def Quantity.span : Quantity → Nat
  | .lean => 4500
  | .rate => 30000
  | .steer => 4000
  | .torque => 2500

theorem clampCountInt_quantity (q : Quantity) (x : Int) :
    clampCountInt q.lo q.hi x =
      (clampSym (Quantity.span q) x, if clampSym (Quantity.span q) x = x then 0 else 1) := by
  have range : clampSym (Quantity.span q) x = clampInt q.lo q.hi x := by cases q <;> rfl
  have order : q.lo ≤ q.hi := by cases q <;> decide
  rw [range, clampCountInt]
  congr 1
  unfold clampInt
  by_cases low : x < q.lo
  · rw [if_pos (.inl low), if_pos low, if_neg (by omega)]
  by_cases high : q.hi < x
  · rw [if_pos (.inr high), if_neg low, if_pos high, if_neg (by omega)]
  · rw [if_neg (by omega), if_neg low, if_neg high, if_pos rfl]

theorem toList_eq_map_finRange {α : Type} {n : Nat} (v : Vector α n) : v.toList = (List.finRange n).map fun i => v[i] := by
  apply List.ext_getElem
  · simp
  · intro i h h'
    simp

/-- The miss counts and ages by index (R73). -/
theorem missesAndAges_eq (b : Bus) :
    b.missesAndAges = (List.finRange 6).flatMap fun i =>
      [byteOfNat (b.device i).run.misses, byteOfNat ((b.device i).run.age.getD 255)] := by
  rw [Bus.missesAndAges, toList_eq_map_finRange, List.flatMap_map]
  rfl

/-- A SET_DEVICE body's configuration and count, by the fields (R72, Table 11-4). -/
theorem deviceConfigOf_eq (body : List Byte) :
    let width := max 1 (min 2 (byteAt body 3))
    let widest : Nat := if width = 1 then 255 else 65535
    let quantity := Quantity.ofCode (min 3 (byteAt body 7))
    let pos := min 6 (byteAt body 8)
    let checked : Bool := flagAt body 14
    let place := min 7 (byteAt body 15)
    let length := max 1 (min 8 (byteAt body 6))
    let longer := max length (pos + 2)
    let offset := clampSym (Quantity.span quantity) (signedAt body 12)
    deviceConfigOf body =
      ({ enabled := flagAt body 1, address := min 127 (byteAt body 2), regWidth := width
         regAddr := min widest (unsignedAt body 4)
         readLength := if checked then max longer (place + 1) else longer
         quantity := quantity, rawPos := pos, little := flagAt body 9, gain := signedAt body 10
         offset := offset
         status := if checked then some { offset := place, mask := body.getD 16 0, expected := body.getD 17 0 }
           else none
         maxStep := min 9000 (unsignedAt body 18), staleLimit := max 1 (min 50 (byteAt body 20)) },
        outOf 0 127 (byteAt body 2) + outOf 1 2 (byteAt body 3) + outOf 0 widest (unsignedAt body 4) +
          outOf 1 8 (byteAt body 6) + outOf 0 3 (byteAt body 7) + outOf 0 6 (byteAt body 8) +
          (if offset = signedAt body 12 then 0 else 1) + (if checked then outOf 0 7 (byteAt body 15) else 0) +
          outOf 0 9000 (unsignedAt body 18) + outOf 1 50 (byteAt body 20) + outOf 0 length (pos + 2) +
          (if checked then outOf 0 longer (place + 1) else 0)) := by
  intro width widest quantity pos checked place length longer offset
  have kind : (if 3 < byteAt body 7 then 1 else 0) = outOf 0 3 (byteAt body 7) := by simp [outOf]
  unfold deviceConfigOf statusOffset
  simp only [quantity, offset, ofCode_min, clampCount_zero, clampCount_eq (show 1 ≤ 2 by decide), clampCount_eq (show 1 ≤ 8 by decide),
    clampCount_eq (show 1 ≤ 50 by decide), clampCountInt_quantity, raiseLength_eq, kind]
  cases present : flagAt body 14 with
  | true => simp only [checked, present, if_true]; rfl
  | false => simp only [checked, present, Bool.false_eq_true, if_false]; rfl

theorem device_setDevice_same (b : Bus) (i : Fin 6) (d : Device) : (b.setDevice i d).device i = d := by
  simp [Bus.setDevice, Bus.device]

theorem device_setDevice_ne (b : Bus) {i j : Fin 6} (d : Device) (other : j ≠ i) :
    (b.setDevice i d).device j = b.device j := by
  have : i.val ≠ j.val := fun e => other (Fin.ext e.symm)
  simp [Bus.setDevice, Bus.device, Vector.getElem_set_ne, this]

/-- A poll whose entry is rewritten has its result discarded (R72). -/
theorem discardFor_poll (i j : Fin 6) (oldRound discard : Bool) (x : Transaction) :
    (BusActivity.poll j oldRound discard x).discardFor i = .poll j oldRound (discard || decide (j = i)) x := by
  rw [BusActivity.discardFor, show (i == j) = decide (j = i) by rw [beq_eq_decide, decide_eq_decide]; exact eq_comm]

theorem discardFor_other {a : BusActivity} (other : ∀ j oldRound discard x, a ≠ .poll j oldRound discard x)
    (i : Fin 6) : a.discardFor i = a := by
  cases a with
  | poll j oldRound discard x => exact absurd rfl (other j oldRound discard x)
  | idle | passThrough _ | clear _ => rfl

/-- SET_DEVICE of an entry of the table, taken in OFF (R72). -/
theorem setDevice_of_off {body : List Byte} {s : State} (off : s.seq.mode = .off) (i : Fin 6)
    (index : byteAt body 0 = i.val) :
    Machine.setDevice body s =
      ({ s with bus := { s.bus with
          devices := (s.bus.setDevice i ((s.bus.device i).rewritten (deviceConfigOf body).1)).devices
          activity := s.bus.activity.discardFor i } },
        { Done.clamped (deviceConfigOf body).2 with data := s.bus.missesAndAges }) := by
  have inTable : byteAt body 0 < 6 := by rw [index]; exact i.isLt
  have entry : (⟨byteAt body 0, inTable⟩ : Fin 6) = i := Fin.ext index
  unfold Machine.setDevice
  rw [dif_pos inTable]
  dsimp only
  rw [if_pos off, entry]
  rfl

theorem setDevice_of_moving {body : List Byte} {s : State} (moving : s.seq.mode ≠ .off) (i : Fin 6)
    (index : byteAt body 0 = i.val) :
    Machine.setDevice body s =
      (s, { outcome := .mode, detail := s.seq.mode.code, data := s.bus.missesAndAges }) := by
  have inTable : byteAt body 0 < 6 := by rw [index]; exact i.isLt
  unfold Machine.setDevice
  rw [dif_pos inTable]
  exact if_neg moving

/-- Settles O30. -/
theorem setDevice : Obligations.SetDevice := by
  intro tag body s r data out width widest quantity span pos checked place length longer longest clamped answer
  have datum : s.bus.missesAndAges = data := missesAndAges_eq s.bus
  refine ⟨?codes, fun beyond => ?beyond, fun i index => ⟨fun moving => ?moving, fun off => ?_⟩⟩
  case codes => decide
  case beyond => exact congrArg answered (dif_neg (by omega))
  case moving =>
    have refused := congrArg answered (setDevice_of_moving moving i index)
    rw [datum] at refused
    exact refused
  have config : deviceConfigOf body = (_, clamped) := deviceConfigOf_eq body
  have few : clamped ≤ 255 := by
    have one (lo hi x : Nat) : out lo hi x ≤ 1 := outOf_le lo hi x
    have offset : (if clampSym span (signedAt body 12) = signedAt body 12 then 0 else 1) ≤ 1 := by split <;> omega
    have status : (if checked then out 0 7 (byteAt body 15) else 0) ≤ 1 := by split <;> [exact one ..; omega]
    have placed : (if checked then out 0 longer (place + 1) else 0) ≤ 1 := by split <;> [exact one ..; omega]
    have := one 0 127 (byteAt body 2)
    have := one 1 2 (byteAt body 3)
    have := one 0 widest (unsignedAt body 4)
    have := one 1 8 (byteAt body 6)
    have := one 0 3 (byteAt body 7)
    have := one 0 6 (byteAt body 8)
    have := one 0 9000 (unsignedAt body 18)
    have := one 1 50 (byteAt body 20)
    have := one 0 length (pos + 2)
    simp only [clamped]
    omega
  have answers : Done.clamped clamped = answer := by
    rw [Done.clamped, min_eq_right few]
  have done := congrArg answered (setDevice_of_off off i index)
  rw [datum, config, answers] at done
  have taken : r = _ := done
  have devices : r.1.bus.devices = _ := congrArg (fun r : State × Option Done => r.1.bus.devices) taken
  have activity : r.1.bus.activity = s.bus.activity.discardFor i :=
    congrArg (fun r : State × Option Done => r.1.bus.activity) taken
  refine ⟨congrArg Prod.snd taken, ?_, ?_, fun j other => ?_, fun j oldRound discard x polls => ?_, fun other => ?_⟩
  · rw [devices, activity]
    exact congrArg Prod.fst taken
  · rw [Bus.device, devices]
    exact device_setDevice_same s.bus i _
  · rw [Bus.device, devices]
    exact device_setDevice_ne s.bus _ other
  · rw [activity, polls, discardFor_poll]
  · rw [activity, discardFor_other other]

/-! ### What the bus takes up -/

/-- A bus that is STUCK or has something on it takes up nothing. -/
theorem next_of_busy {b : Bus} (busy : b.stuck = true ∨ b.activity ≠ .idle) : b.next = b := by
  unfold Bus.next
  split
  case h_1 ready idle => exact absurd busy (by simp [ready, idle])
  case h_2 => rfl

theorem next_of_notStarted {b : Bus} (round : b.round = .notStarted) : b.next = b := by
  unfold Bus.next
  split
  · rw [round]
  · rfl

theorem next_of_done {b : Bus} (ready : b.stuck = false) (idle : b.activity = .idle) (round : b.round = .done) :
    b.next = b.startPass := by
  unfold Bus.next
  rw [ready, idle, round]

theorem startPass_of_used {b : Bus} (used : b.passUsed = true) : b.startPass = b := by
  unfold Bus.startPass
  rw [used]

theorem startPass_of_oldest {b : Bus} (free : b.passUsed = false) {p : PassThrough} {rest : List PassThrough}
    (queue : b.queue = p :: rest) :
    b.startPass = { b with activity := .passThrough { speed := b.speed, wire := p.wire }, passUsed := true } := by
  unfold Bus.startPass
  rw [free, queue]

/-! ### SET_BUS and PASS_THROUGH -/

theorem byteAt_eq_zero_iff (b : Byte) : byteAt [b] 0 = 0 ↔ b = 0 := by
  rw [← BitVec.toNat_inj]
  rfl

theorem setBusSpeed_of_off {b : Byte} {s : State} (off : s.seq.mode = .off) :
    setBusSpeed [b] s = ({ s with bus := { s.bus with speed := if b = 0 then .mhz1 else .khz400 } },
      if 1 < b.toNat then .plain .acceptedClamped 1 else .plain .accepted 0) := by
  have answer : Done.clamped (if 1 < b.toNat then 1 else 0) =
      if 1 < b.toNat then .plain .acceptedClamped 1 else .plain .accepted 0 := by
    by_cases above : 1 < b.toNat
    · rw [if_pos above, if_pos above]; rfl
    · rw [if_neg above, if_neg above]; rfl
  unfold setBusSpeed
  rw [if_pos off]
  dsimp only
  rw [if_congr (byteAt_eq_zero_iff b) rfl rfl, show byteAt [b] 0 = b.toNat from rfl, answer]
  rfl

/-- The transaction a PASS_THROUGH body carries (R80). -/
def passOf (tag : Byte) (body : List Byte) : PassThrough :=
  { tag := tag, address := byteAt body 0 % 128, writes := (body.drop 3).take (byteAt body 1)
    readCount := byteAt body 2 }

theorem passThrough_of_room {tag : Byte} {body : List Byte} {s : State} (writes : byteAt body 1 ≤ 12)
    (reads : byteAt body 2 ≤ 12) (room : s.bus.queue.length < 4) :
    passThrough tag body s =
      ({ s with bus := ({ s.bus with queue := s.bus.queue ++ [passOf tag body] } : Bus).next }, none) := by
  unfold passThrough
  dsimp only
  rw [if_neg (by omega), if_neg (by omega)]
  rfl

theorem receives_of_pos {n : Nat} (pos : 0 < n) :
    receives n = List.replicate (n - 1) (.receive true) ++ [.receive false] := by
  cases n with
  | zero => omega
  | succ k => rfl

/-- Settles O31. -/
theorem setBusAndPassThrough : Obligations.SetBusAndPassThrough := by
  refine ⟨fun tag b s => ⟨fun moving => ?moving, fun off => ?off⟩, fun tag body s => ?_, fun p => ?_⟩
  case moving => exact congrArg answered (if_neg moving)
  case off =>
    change answered (setBusSpeed [b] s) = _
    rw [setBusSpeed_of_off off]
    rfl
  · intro r writeCount readCount p joined
    refine ⟨fun long => if_pos long, fun writes reads full => ?full, fun writes reads room => ?_⟩
    case full => exact (if_neg (by omega)).trans (if_pos full)
    have taken : r = ({ s with bus := joined.next }, none) := passThrough_of_room writes reads room
    refine ⟨congrArg Prod.snd taken, fun waits => ?_, fun ready idle round free oldest rest queue => ?_⟩
    · have stands : joined.next = joined := by
        rcases waits with stuck | busy | waiting | ⟨round, used⟩
        · exact next_of_busy (.inl stuck)
        · exact next_of_busy (.inr busy)
        · exact next_of_notStarted waiting
        · by_cases busy : joined.stuck = true ∨ joined.activity ≠ .idle
          · exact next_of_busy busy
          · obtain ⟨ready, idle⟩ := not_or.1 busy
            rw [next_of_done (by simpa using ready) (not_not.1 idle) round]
            exact startPass_of_used used
      rw [taken, stands]
    · have starts : joined.next = _ :=
        (next_of_done (b := joined) ready idle round).trans (startPass_of_oldest (b := joined) free queue)
      rw [taken, starts]
  · intro address reads
    have received (pos : 0 < p.readCount) : receives p.readCount = reads := receives_of_pos pos
    refine ⟨fun readsOnly zero => ?_, fun readsOnly pos => ?_, fun some zero => ?_, fun some pos => ?_⟩
    · rw [PassThrough.wire, readsOnly, zero]
      rfl
    · obtain ⟨n, count⟩ := Nat.exists_eq_succ_of_ne_zero pos.ne'
      rw [← received pos, PassThrough.wire, readsOnly, count]
      rfl
    · obtain ⟨w, ws, writes⟩ := List.exists_cons_of_ne_nil some
      rw [PassThrough.wire, writes, zero]
      rfl
    · obtain ⟨n, count⟩ := Nat.exists_eq_succ_of_ne_zero pos.ne'
      obtain ⟨w, ws, writes⟩ := List.exists_cons_of_ne_nil some
      rw [← received pos, PassThrough.wire, writes, count]
      rfl

end Sys2Proof.Proofs

/-! The elements on the bus lines and what the levels read come to (R69, R75, R86). -/

namespace Sys2Proof.Proofs
open Sys2Proof.Machine

/-! ### Bytes on the line -/

theorem byteBits_length (b : Byte) : (byteBits b).length = 8 := by simp [byteBits]

/-- Eight levels folded most significant bit first are the byte whose bits they are. -/
theorem foldl_byteBits (b : Byte) :
    (byteBits b).foldl (fun (b : Byte) x => b <<< 1 ||| (if x then 1 else 0)) 0 = b := by
  have bits : byteBits b = [b.getMsbD 0, b.getMsbD 1, b.getMsbD 2, b.getMsbD 3, b.getMsbD 4, b.getMsbD 5,
    b.getMsbD 6, b.getMsbD 7] := rfl
  have bit (x : Bool) (i : Nat) (h : i < 8) : (if x = true then (1#8) else 0#8)[i] = (decide (i = 0) && x) := by
    cases x <;> simp [BitVec.getElem_one]
  rw [bits]
  apply BitVec.eq_of_getLsbD_eq
  intro i hi
  interval_cases i <;> simp [List.foldl, BitVec.getMsbD, bit]

theorem readByte_byteBits (b : Byte) (rest : List Bool) : readByte (byteBits b ++ rest) = b := by
  have byte : (byteBits b ++ rest ++ List.replicate 8 true).take 8 = byteBits b := by
    rw [List.append_assoc, List.take_left' (byteBits_length b)]
  rw [readByte, byte, foldl_byteBits]

/-! ### Whole transactions -/

theorem wireBitPeriods_cons (e : BusElement) (l : List BusElement) :
    wireBitPeriods (e :: l) = e.bitPeriods + wireBitPeriods l := rfl

theorem wireBitPeriods_append (l m : List BusElement) :
    wireBitPeriods (l ++ m) = wireBitPeriods l + wireBitPeriods m := by
  simp [wireBitPeriods]

theorem wireBitPeriods_sends (l : List Byte) : wireBitPeriods (l.map BusElement.send) = 9 * l.length := by
  induction l with
  | nil => rfl
  | cons b l ih =>
    rw [List.map_cons, wireBitPeriods_cons, ih, List.length_cons, BusElement.bitPeriods]
    omega

theorem wireBitPeriods_receives (l : List Bool) : wireBitPeriods (l.map BusElement.receive) = 9 * l.length := by
  induction l with
  | nil => rfl
  | cons a l ih =>
    rw [List.map_cons, wireBitPeriods_cons, ih, List.length_cons, BusElement.bitPeriods]
    omega

/-- The acknowledges of n bytes received: all but the last (R69). -/
def receiveAcks (n : Nat) : List Bool := List.replicate (n - 1) true ++ [false]

theorem receives_eq_map {n : Nat} (pos : 0 < n) : receives n = (receiveAcks n).map BusElement.receive := by
  rw [receives_of_pos pos, receiveAcks]
  simp

theorem receiveAcks_length {n : Nat} (pos : 0 < n) : (receiveAcks n).length = n := by
  simp [receiveAcks]
  omega

/-- Acknowledged bytes sent are counted as written. -/
theorem endOfWire_sends (bytes : List Byte) (w : List BusElement) (sda : List Bool) (acked : Nat) (got : List Byte) :
    endOfWire (bytes.map BusElement.send ++ w) (List.replicate bytes.length false ++ sda) false acked got =
      endOfWire w sda false (acked + bytes.length) got := by
  induction bytes generalizing acked with
  | nil => rfl
  | cons b bytes ih =>
    have head : endOfWire ((b :: bytes).map BusElement.send ++ w) (List.replicate (b :: bytes).length false ++ sda) false
        acked got =
        endOfWire (bytes.map BusElement.send ++ w) (List.replicate bytes.length false ++ sda) false (acked + 1) got :=
      rfl
    rw [head, ih, List.length_cons]
    congr 1
    omega

/-- A NACK to a written byte ends the transaction there. -/
theorem endOfWire_sends_nack (bytes : List Byte) (w : List BusElement) (rest : List Bool) (acked : Nat)
    (got : List Byte) {k : Nat} (within : k < bytes.length) :
    endOfWire (bytes.map BusElement.send ++ w) (List.replicate k false ++ true :: rest) false acked got =
      .nackData (acked + k) := by
  induction bytes generalizing acked k with
  | nil => exact absurd within (by simp)
  | cons b bytes ih =>
    cases k with
    | zero => rfl
    | succ k =>
      have head : endOfWire ((b :: bytes).map BusElement.send ++ w) (List.replicate (k + 1) false ++ true :: rest) false
          acked got =
          endOfWire (bytes.map BusElement.send ++ w) (List.replicate k false ++ true :: rest) false (acked + 1) got :=
        rfl
      rw [head, ih _ (by simpa using within)]
      congr 1
      omega

/-- Bytes received are gathered in order. -/
theorem endOfWire_receives (acks : List Bool) (w : List BusElement) (address : Bool) (acked : Nat) (bytes got : List Byte)
    (each : bytes.length = acks.length) :
    endOfWire (acks.map BusElement.receive ++ w) (bytes.flatMap byteBits) address acked got =
      endOfWire w [] address acked (got ++ bytes) := by
  induction acks generalizing bytes got with
  | nil =>
    rw [List.length_eq_zero_iff.1 each]
    simp
  | cons a acks ih =>
    obtain ⟨b, bytes, rfl⟩ := List.exists_cons_of_length_eq_add_one each
    have head : endOfWire ((a :: acks).map BusElement.receive ++ w) ((b :: bytes).flatMap byteBits) address acked got =
        endOfWire (acks.map BusElement.receive ++ w) (((b :: bytes).flatMap byteBits).drop 8) address acked
          (got ++ [readByte ((b :: bytes).flatMap byteBits)]) := rfl
    rw [head, List.flatMap_cons, readByte_byteBits, List.drop_left' (byteBits_length b), ih _ _ (by simpa using each)]
    simp

theorem addressByte_direction (address : Nat) (read : Bool) : (addressByte address read).getLsbD 0 = read := by
  rw [addressByte, byteOfNat, BitVec.getLsbD_ofNat]
  cases read <;> simp [Nat.testBit_zero, bit]

/-- Settles O32. -/
theorem busElements : Obligations.BusElements := by
  unfold Obligations.BusElements
  intro clocked edges
  refine ⟨fun b => ⟨rfl, rfl⟩, fun ack => ⟨rfl, rfl⟩, rfl, rfl, rfl, fun v sda => ⟨rfl, rfl, rfl, rfl⟩,
    readByte_byteBits, fun b w sda => ⟨rfl, rfl⟩, fun c v rest pos => ?_⟩
  intro x low n low8 address
  have acks := receiveAcks_length pos
  have wire : c.wire = .start :: address 0 :: (c.registerBytes.map BusElement.send ++
      (.repeatedStart :: address 1 :: ((receiveAcks c.readLength).map BusElement.receive ++ [.stop]))) := by
    rw [DeviceConfig.wire, receives_eq_map pos]
    simp only [List.append_assoc, List.cons_append, List.nil_append]
    rfl
  have result (sda : List Bool) : x.result (.levels sda) = endOfWire c.wire sda false 0 [] := rfl
  -- both address bytes and the register address acknowledged
  have addressed (sda : List Bool) :
      endOfWire c.wire (low (n + 1) ++ sda) false 0 [] =
        endOfWire (.repeatedStart :: address 1 :: ((receiveAcks c.readLength).map BusElement.receive ++ [.stop])) sda
          false n [] := by
    rw [wire, show low (n + 1) = false :: List.replicate n false from rfl]
    refine (endOfWire_sends c.registerBytes _ sda 0 []).trans ?_
    rw [Nat.zero_add]
  refine ⟨rfl, ?wire, ?periods, fun bytes each => ?bytes, ?first, fun k within => ?data, ?second⟩
  case wire =>
    rw [DeviceConfig.wire, receives_of_pos pos]
    simp only [List.append_assoc]
    rfl
  case periods =>
    have split : wireBitPeriods c.wire = 1 + (9 + (wireBitPeriods (c.registerBytes.map BusElement.send) +
        (1 + (9 + (wireBitPeriods ((receiveAcks c.readLength).map BusElement.receive) + 1))))) := by
      rw [wire]
      rw [wireBitPeriods_cons, wireBitPeriods_cons, wireBitPeriods_append, wireBitPeriods_cons, wireBitPeriods_cons,
        wireBitPeriods_append]
      rfl
    rw [split, wireBitPeriods_sends, wireBitPeriods_receives, acks]
    omega
  case bytes =>
    rw [result, show low (n + 2) = low (n + 1) ++ [false] from List.replicate_succ', List.append_assoc, addressed]
    refine (endOfWire_receives _ _ _ _ bytes [] (each.trans acks.symm)).trans ?_
    rfl
  case first =>
    rw [result, wire]
    exact congrArg BusResult.nackAddress (addressByte_direction c.address false)
  case data =>
    rw [result, wire, show low (k + 1) = false :: List.replicate k false from rfl]
    refine (endOfWire_sends_nack c.registerBytes _ rest 0 [] within).trans ?_
    rw [Nat.zero_add]
  case second =>
    rw [result, addressed]
    exact congrArg BusResult.nackAddress (addressByte_direction c.address true)

end Sys2Proof.Proofs

/-! The sensor bus master's events (R74 to R88): the round timer, the end of a poll and of a pass-through, and clears. -/

namespace Sys2Proof.Proofs
open Sys2Proof.Machine

/-! ### The age step and the new round -/

theorem setByte_eq_zero_iff (l : List Bool) : setByte l = 0 ↔ ∀ b ∈ l, b = false := by
  induction l with
  | nil => simp [setByte]
  | cons b l ih => cases b <;> simp [setByte, ih]

/-- The present set is empty where no entry is enabled. -/
theorem presentByte_eq_zero_iff (b : Bus) :
    b.presentByte = 0 ↔ ¬ ∃ i : Fin 6, (b.device i).cfg.enabled = true := by
  rw [Bus.presentByte, setByte_eq_zero_iff, toList_eq_map_finRange]
  simp [Device.present, Bus.device]

theorem agedBy_eq (age : Option Nat) : agedBy age = age.map (bump 255) := by cases age <;> rfl

theorem not_staleAge_eq (limit : Nat) (age : Option Nat) : (!staleAge limit age) = age.any (· ≤ limit) := by
  cases age with
  | none => rfl
  | some n => by_cases fresh : n ≤ limit <;> simp [staleAge, fresh, Nat.not_lt.2, Nat.lt_of_not_le]

theorem ageStep_of_disabled {d : Device} (disabled : d.cfg.enabled = false) : d.ageStep = d := by
  rw [Device.ageStep, disabled]
  rfl

theorem ageStep_of_enabled {d : Device} (enabled : d.cfg.enabled = true) :
    d.ageStep =
      let age := if d.run.sampled then d.run.age else d.run.age.map (bump 255)
      { d with run := { d.run with age := age, sampled := false,
                                   joined := d.run.joined && age.any (· ≤ d.cfg.staleLimit) } } := by
  rw [Device.ageStep, if_pos enabled]
  dsimp only
  rw [agedBy_eq, not_staleAge_eq]

theorem ageStep_cfg (d : Device) : d.ageStep.cfg = d.cfg := by
  unfold Device.ageStep
  split <;> rfl

theorem endRound_idle_iff (a : BusActivity) : a.endRound = .idle ↔ a = .idle := by
  cases a <;> simp [BusActivity.endRound]

/-- The bus master as an expiry of the round timer renews it, before it takes up its work (R74, R75, R76). -/
def renewedBus (b : Bus) : Bus :=
  { b with timer := some 2000, devices := tableMap Device.ageStep b.devices, activity := b.activity.endRound
           passUsed := false
           round := if ∃ i : Fin 6, (b.device i).cfg.enabled = true then .polling none else .done }

theorem renewedBus_device (b : Bus) (i : Fin 6) : (renewedBus b).device i = (b.device i).ageStep :=
  tableMap_get _ _ _ i.isLt

theorem expiry_eq (b : Bus) :
    b.expiry = if b.stuck = true ∧ b.activity = .idle then (renewedBus b).startClear else (renewedBus b).next := by
  let aged : Bus := { b with timer := some 2000, devices := tableMap Device.ageStep b.devices
                             activity := b.activity.endRound, passUsed := false }
  have enabled (i : Fin 6) : (aged.device i).cfg.enabled = (b.device i).cfg.enabled :=
    congrArg DeviceConfig.enabled ((congrArg Device.cfg (tableMap_get _ _ _ i.isLt)).trans (ageStep_cfg _))
  have round : (if aged.presentByte = 0 then Round.done else .polling none) =
      if ∃ i : Fin 6, (b.device i).cfg.enabled = true then .polling none else .done := by
    rw [if_congr (presentByte_eq_zero_iff aged) rfl rfl, ite_not]
    simp only [enabled]
  have renewed : { aged with round := if aged.presentByte = 0 then Round.done else .polling none } = renewedBus b :=
    congrArg (fun r => { aged with round := r }) round
  unfold Bus.expiry
  dsimp only
  rw [renewed]
  by_cases retries : b.stuck = true ∧ b.activity = .idle
  · obtain ⟨stuck, idle⟩ := retries
    rw [if_pos ⟨stuck, idle⟩, stuck, (endRound_idle_iff _).2 idle]
  · rw [if_neg retries]
    split
    case h_1 stuck idle => exact absurd ⟨stuck, (endRound_idle_iff _).1 idle⟩ retries
    case h_2 => rfl

/-! ### What taking up work leaves -/

theorem startPass_keeps (b : Bus) :
    b.startPass.timer = b.timer ∧ b.startPass.stuck = b.stuck ∧ b.startPass.speed = b.speed ∧
      b.startPass.queue = b.queue ∧ b.startPass.devices = b.devices := by
  unfold Bus.startPass
  split <;> simp

theorem next_keeps (b : Bus) :
    b.next.timer = b.timer ∧ b.next.stuck = b.stuck ∧ b.next.speed = b.speed ∧ b.next.queue = b.queue ∧
      b.next.devices = b.devices := by
  unfold Bus.next
  split
  · split
    · simp
    · split
      · simp [Bus.startPoll]
      · exact startPass_keeps { b with round := .done }
    · exact startPass_keeps b
  · simp

/-- An idle bus that takes up its work is one just freed. -/
theorem next_takesUp {b : Bus} (idle : b.activity = .idle) : b.TakesUp b.next := by
  have same : ({ b with activity := .idle } : Bus) = b := by rw [← idle]
  have freed := Bus.free_takesUp b
  rwa [Bus.free, same] at freed

theorem expiry_keeps (b : Bus) :
    b.expiry.timer = some 2000 ∧ b.expiry.stuck = b.stuck ∧ b.expiry.speed = b.speed ∧ b.expiry.queue = b.queue ∧
      b.expiry.devices = tableMap Device.ageStep b.devices := by
  rw [expiry_eq]
  split
  · exact ⟨rfl, rfl, rfl, rfl, rfl⟩
  · exact next_keeps (renewedBus b)

/-- Settles O33. -/
theorem roundTimerExpiry : Obligations.RoundTimerExpiry := by
  intro s n timed
  have expires : exec .roundTimerExpiry s = .next { s with bus := s.bus.expiry } := by
    change execRoundTimerExpiry s = _
    rw [execRoundTimerExpiry, timed]
    rfl
  obtain ⟨timer, stuck, speed, queue, devices⟩ := expiry_keeps s.bus
  have device (i : Fin 6) : s.bus.expiry.device i = (s.bus.device i).ageStep := by
    rw [Bus.device, devices]
    exact tableMap_get _ _ _ i.isLt
  refine ⟨{ s with bus := s.bus.expiry }, expires, rfl, timer, stuck, speed, queue, fun i => ?_, ?_⟩
  · intro d age
    exact ⟨fun disabled => (device i).trans (ageStep_of_disabled disabled),
      fun enabled => (device i).trans (ageStep_of_enabled enabled)⟩
  intro goesOn renewed
  have renewal : renewed = renewedBus s.bus := by
    have goes : goesOn = s.bus.activity.endRound := by
      simp only [goesOn]
      cases s.bus.activity <;> rfl
    simp only [renewed]
    rw [devices, goes]
    rfl
  have busy (working : s.bus.activity ≠ .idle) : s.bus.expiry = (renewedBus s.bus).next := by
    rw [expiry_eq, if_neg fun both => working both.2]
  have taken (ready : s.bus.stuck = false) (idle : s.bus.activity = .idle) :
      (renewedBus s.bus).TakesUp s.bus.expiry := by
    rw [expiry_eq, if_neg (by simp [ready])]
    exact next_takesUp ((endRound_idle_iff _).2 idle)
  refine ⟨fun working => ?_, fun stuck idle => ?_, fun ready idle => ?_, fun i ready idle enabled lowest => ?_⟩
  · rw [renewal]
    exact (busy working).trans (next_of_busy (.inr fun idle => working ((endRound_idle_iff _).1 idle)))
  · rw [renewal]
    exact (expiry_eq s.bus).trans (if_pos ⟨stuck, idle⟩)
  · rw [renewal]
    exact taken ready idle
  · have polling : (renewedBus s.bus).round = .polling none := if_pos ⟨i, enabled⟩
    have cfg (j : Fin 6) : ((renewedBus s.bus).device j).cfg = (s.bus.device j).cfg := by
      rw [renewedBus_device, ageStep_cfg]
    obtain ⟨-, works⟩ := taken ready idle
    obtain ⟨-, -, rounds⟩ := works ready
    obtain ⟨polls, -⟩ := rounds none polling
    have begun := polls i ⟨by rw [cfg]; exact enabled, nofun⟩ fun j below waits => by
      obtain ⟨enabled, -⟩ := waits
      rw [cfg, lowest j below] at enabled
      cases enabled
    have activity := congrArg Bus.activity begun
    rw [cfg] at activity
    exact activity

/-! ### How a transaction ends -/

theorem endOfWire_ne_lineLow (wire : List BusElement) (sda : List Bool) (address : Bool) (acked : Nat)
    (got : List Byte) : endOfWire wire sda address acked got ≠ .lineLow := by
  induction wire generalizing sda address acked got with
  | nil => exact nofun
  | cons e wire ih =>
    cases e with
    | send b =>
      rw [endOfWire]
      split
      · split <;> exact nofun
      · exact ih _ _ _ _
    | receive _ | start | repeatedStart | stop | clock => exact ih _ _ _ _

theorem result_eq_lineLow_iff (x : Transaction) (a : BusAnswer) : x.result a = .lineLow ↔ a = .lineLow := by
  cases a with
  | levels sda => exact iff_of_false (endOfWire_ne_lineLow _ _ _ _ _) nofun
  | lineLow => exact iff_of_true rfl rfl

/-- A low line or a stop that does not form needs a clear (R84, R85). -/
theorem needsClear_iff (r : BusResult) (stopFormed : Bool) :
    needsClear r stopFormed = true ↔ r = .lineLow ∨ stopFormed = false := by
  cases r <;> cases stopFormed <;> simp [needsClear]

theorem afterTransaction_keeps (b : Bus) (clear : Bool) :
    (b.afterTransaction clear).timer = b.timer ∧ (b.afterTransaction clear).stuck = b.stuck ∧
      (b.afterTransaction clear).speed = b.speed ∧ (b.afterTransaction clear).queue = b.queue ∧
      (b.afterTransaction clear).devices = b.devices := by
  cases clear
  · exact next_keeps { b with activity := .idle }
  · exact ⟨rfl, rfl, rfl, rfl, rfl⟩

/-- After a transaction the bus is cleared where one is needed, and else takes up what is next. -/
theorem afterTransaction_spec (b : Bus) (r : BusResult) (stopFormed : Bool) :
    (r = .lineLow ∨ stopFormed = false →
      b.afterTransaction (needsClear r stopFormed) = { b with activity := .clear (.clearAt b.speed) }) ∧
    (r ≠ .lineLow → stopFormed = true → b.TakesUp (b.afterTransaction (needsClear r stopFormed))) := by
  constructor
  · intro bad
    rw [(needsClear_iff r stopFormed).2 bad]
    rfl
  · intro answered formed
    have free : needsClear r stopFormed = false := by
      rw [Bool.eq_false_iff]
      intro clear
      rcases (needsClear_iff r stopFormed).1 clear with low | unformed
      · exact answered low
      · exact absurd (formed.symm.trans unformed) (by decide)
    rw [free]
    exact Bus.free_takesUp b

/-! ### The end of a poll -/

/-- The bus after a poll of an entry, its entries being `devices`, before it takes up what is next (R75, R76). -/
def polledBus (b : Bus) (devices : Vector Device 6) (i : Fin 6) (oldRound : Bool) : Bus :=
  { b with devices := devices
           round := if oldRound = true then b.round
             else if ∃ j : Fin 6, i < j ∧ (b.device j).cfg.enabled = true then .polling (some i) else .done }

/-- A poll completes: its entry takes the result unless it is discarded, then its round, then the bus. -/
theorem finishPoll_eq (b : Bus) (i : Fin 6) (oldRound discard : Bool) {act : Device → Device}
    (keeps : ∀ d, (act d).cfg = d.cfg) (clear : Bool) :
    b.finishPoll i oldRound discard act clear =
      (polledBus b (if discard then b.devices else (b.setDevice i (act (b.device i))).devices) i
        oldRound).afterTransaction clear := by
  unfold Bus.finishPoll
  dsimp only
  rw [Bus.afterPoll_eq]
  cases discard with
  | true => rfl
  | false =>
    have enabled (j : Fin 6) :
        ((b.setDevice i (act (b.device i))).device j).cfg.enabled = (b.device j).cfg.enabled := by
      by_cases same : j = i
      · rw [same, device_setDevice_same, keeps]
      · rw [device_setDevice_ne _ _ same]
    simp only [Bool.false_eq_true, if_false, enabled]
    rfl

theorem finishPoll_keeps (b : Bus) (i : Fin 6) (oldRound discard : Bool) (act : Device → Device) (clear : Bool) :
    (b.finishPoll i oldRound discard act clear).timer = b.timer ∧
      (b.finishPoll i oldRound discard act clear).stuck = b.stuck ∧
      (b.finishPoll i oldRound discard act clear).queue = b.queue ∧
      (b.finishPoll i oldRound discard act clear).devices =
        if discard then b.devices else (b.setDevice i (act (b.device i))).devices := by
  unfold Bus.finishPoll
  dsimp only
  rw [Bus.afterPoll_eq]
  obtain ⟨timer, stuck, -, queue, devices⟩ := afterTransaction_keeps { (if discard = true then b
    else b.setDevice i (act (b.device i))) with
      round := if oldRound = true then (if discard = true then b else b.setDevice i (act (b.device i))).round
        else if ∃ j : Fin 6, i < j ∧ ((if discard = true then b
          else b.setDevice i (act (b.device i))).device j).cfg.enabled = true then .polling (some i) else .done } clear
  rw [timer, stuck, queue, devices]
  cases discard <;> exact ⟨rfl, rfl, rfl, rfl⟩

/-- The entries after a poll has completed. -/
theorem finishPoll_device (b : Bus) (i : Fin 6) (oldRound discard : Bool) (act : Device → Device) (clear : Bool) :
    (discard = true → (b.finishPoll i oldRound discard act clear).device i = b.device i) ∧
    (discard = false → (b.finishPoll i oldRound discard act clear).device i = act (b.device i)) ∧
    ∀ j : Fin 6, j ≠ i → (b.finishPoll i oldRound discard act clear).device j = b.device j := by
  obtain ⟨-, -, -, devices⟩ := finishPoll_keeps b i oldRound discard act clear
  refine ⟨fun gone => ?_, fun kept => ?_, fun j other => ?_⟩
  · rw [Bus.device, devices, gone]
    rfl
  · rw [Bus.device, devices, kept]
    exact device_setDevice_same b i _
  · rw [Bus.device, devices]
    split
    · rfl
    · exact device_setDevice_ne b _ other

/-! ### Samples -/

theorem statusPasses_iff (c : DeviceConfig) (bytes : List Byte) :
    c.statusPasses bytes = true ↔
      ¬ ∃ st, c.status = some st ∧ bytes.getD st.offset 0 &&& st.mask ≠ st.expected := by
  unfold DeviceConfig.statusPasses
  cases c.status <;> simp

theorem stepPasses_iff (d : Device) (value : Int) :
    d.stepPasses value = true ↔
      ¬ (d.cfg.maxStep ≠ 0 ∧ d.run.joined = true ∧ d.cfg.maxStep < (value - d.run.last).natAbs) := by
  unfold Device.stepPasses
  by_cases unlimited : d.cfg.maxStep = 0
  · simp [unlimited]
  · cases joined : d.run.joined <;> simp [unlimited]

theorem complete_cfg (r : BusResult) (d : Device) : (d.complete r).cfg = d.cfg := by
  cases r with
  | bytes l =>
    simp only [Device.complete, Device.sample]
    split <;> rfl
  | nackAddress _ | nackData _ | lineLow => rfl

theorem complete_of_no_bytes {r : BusResult} (none : ∀ l, r ≠ .bytes l) (d : Device) : d.complete r = d.miss := by
  cases r with
  | bytes l => exact absurd rfl (none l)
  | nackAddress _ | nackData _ | lineLow => rfl

/-- Settles O34. -/
theorem pollComplete : Obligations.PollComplete := by
  intro a stopFormed s i oldRound discard x polls r d missed
  let ended := s.bus.finishPoll i oldRound discard (fun d => d.complete r) (needsClear r stopFormed)
  have completes : exec (.pollComplete a stopFormed) s = .next { s with bus := ended } := by
    change execPollComplete a stopFormed s = _
    rw [execPollComplete, polls]
    rfl
  obtain ⟨timer, stuck, queue, devices⟩ :=
    finishPoll_keeps s.bus i oldRound discard (fun d => d.complete r) (needsClear r stopFormed)
  obtain ⟨gone, taken, others⟩ :=
    finishPoll_device s.bus i oldRound discard (fun d => d.complete r) (needsClear r stopFormed)
  refine ⟨{ s with bus := ended }, completes, rfl, gone, fun kept noBytes => ?_, fun bytes kept read => ?_, others, ?_⟩
  · exact (taken kept).trans (complete_of_no_bytes noBytes _)
  · intro value stepFails statusFails
    have sampled : ended.device i = d.sample bytes := (taken kept).trans (by rw [read]; rfl)
    have passes : (d.cfg.statusPasses bytes && d.stepPasses (d.cfg.decode bytes)) = true ↔
        ¬ statusFails ∧ ¬ stepFails := by
      rw [Bool.and_eq_true, statusPasses_iff, stepPasses_iff]
      rfl
    refine ⟨fun fails => ?_, fun step status => ?_⟩
    · refine sampled.trans (if_neg fun both => ?_)
      obtain ⟨status, step⟩ := passes.1 both
      exact fails.elim step status
    · exact sampled.trans (if_pos (passes.2 ⟨status, step⟩))
  · intro onward
    have polled : ended = onward.afterTransaction (needsClear r stopFormed) := by
      simp only [onward]
      rw [devices]
      exact finishPoll_eq s.bus i oldRound discard (complete_cfg r) _
    obtain ⟨clears, goesOn⟩ := afterTransaction_spec onward r stopFormed
    rw [← polled, result_eq_lineLow_iff] at clears
    rw [← polled, ne_eq, result_eq_lineLow_iff] at goesOn
    exact ⟨clears, goesOn, timer, stuck, queue⟩

/-! ### The end of a pass-through -/

/-- The report of a pass-through that has ended (R83). -/
def passReport (p : PassThrough) (d : Done) : ReportBody := .directiveDone p.tag 18 d.outcome d.detail d.data

/-- The pass-through on the bus ends: its report, then the bus without it (R83). -/
theorem finishPass_eq (outcome : PassThrough → Done) (clear : Bool) (s : State) {b : Bus} {p : PassThrough}
    {rest : List PassThrough} (queue : b.queue = p :: rest) :
    finishPass outcome clear (setBusState b s) =
      { s with bus := ({ b with queue := rest } : Bus).afterTransaction clear
               port := (stage (passReport p (outcome p)) s).port } := by
  have told : stage (passReport p (outcome p)) (setBusState b s) =
      { s with bus := b, port := (stage (passReport p (outcome p)) s).port } := by
    rw [stage_eq, stage_port_congr (s := s) (t := setBusState b s) _ rfl rfl]
    rfl
  unfold finishPass
  rw [setBusState_bus, queue]
  dsimp only
  rw [stagePassDone, show ReportBody.directiveDone p.tag 18 (outcome p).outcome (outcome p).detail (outcome p).data =
    passReport p (outcome p) from rfl, told]
  rfl

/-- The bus with the oldest pass-through gone; one that did not begin is not the round's (R81, R85). -/
theorem passNotBegun_eq (x : Transaction) (a : BusAnswer) (b : Bus) :
    b.passNotBegun (x.result a) = { b with passUsed := if a = .lineLow then false else b.passUsed } := by
  by_cases low : a = .lineLow
  · rw [(result_eq_lineLow_iff x a).2 low, if_pos low]
    rfl
  · have begun : x.result a ≠ .lineLow := fun is => low ((result_eq_lineLow_iff x a).1 is)
    rw [if_neg low]
    unfold Bus.passNotBegun
    cases result : x.result a with
    | lineLow => exact absurd result begun
    | bytes _ | nackAddress _ | nackData _ => rfl

/-- Settles O35. -/
theorem passThroughComplete : Obligations.PassThroughComplete := by
  intro a stopFormed s x p rest passes queue body
  let r := x.result a
  have report : body = passReport p (p.outcome r) := by
    simp only [body, r, PassThrough.outcome]
    cases x.result a with
    | nackAddress readDirection => cases readDirection <;> rfl
    | bytes _ | nackData _ | lineLow => rfl
  let onward : Bus := { s.bus with queue := rest, passUsed := if a = .lineLow then false else s.bus.passUsed }
  have completes : exec (.passThroughComplete a stopFormed) s = .next
      { s with bus := onward.afterTransaction (needsClear r stopFormed), port := (stage body s).port } := by
    change execPassThroughComplete a stopFormed s = _
    rw [execPassThroughComplete, passes]
    dsimp only
    rw [passNotBegun_eq, finishPass_eq _ _ s
      (b := { s.bus with passUsed := if a = .lineLow then false else s.bus.passUsed }) queue, ← report]
  obtain ⟨timer, stuck, -, tail, devices⟩ := afterTransaction_keeps onward (needsClear r stopFormed)
  obtain ⟨clears, goesOn⟩ := afterTransaction_spec onward r stopFormed
  rw [result_eq_lineLow_iff] at clears
  rw [ne_eq, result_eq_lineLow_iff] at goesOn
  exact ⟨_, completes, rfl, tail, devices, stuck, timer, clears, goesOn⟩

/-! ### Clears -/

theorem exec_busClearComplete {x : Transaction} {s : State} (clearing : s.bus.activity = .clear x) (sda scl : Bool) :
    exec (.busClearComplete sda scl) s = .next (finishClear sda scl s) := by
  change execBusClearComplete sda scl s = _
  rw [execBusClearComplete, clearing]

theorem exec_sclHoldTimeout (sda scl : Bool) (s : State) :
    exec (.sclHoldTimeout sda scl) s = .next (match s.bus.activity with
      | .poll i oldRound discard _ => setBusState (s.bus.finishPoll i oldRound discard Device.miss true) s
      | .passThrough _ => finishPass (fun _ => .plain .busTimeout 0) true s
      | .clear _ => finishClear sda scl s
      | .idle => s) := rfl

theorem stageTimeouts_eq_foldl (l : List PassThrough) (s : State) :
    stageTimeouts l s = l.foldl (fun u p => stage (.directiveDone p.tag 18 .busTimeout 1 []) u) s := by
  induction l generalizing s with
  | nil => rfl
  | cons p l ih => exact ih _

theorem free_keeps (b : Bus) :
    b.free.timer = b.timer ∧ b.free.stuck = b.stuck ∧ b.free.speed = b.speed ∧ b.free.queue = b.queue ∧
      b.free.devices = b.devices := next_keeps { b with activity := .idle }

/-- A clear that leaves both lines high makes the bus READY and lets it take up what is next (R86, R88). -/
theorem clearSucceeded_bus (s : State) : (clearSucceeded s).bus = ({ s.bus with stuck := false } : Bus).free := by
  unfold clearSucceeded
  dsimp only
  split <;> simp

theorem clearSucceeded_of_ready {s : State} (ready : s.bus.stuck = false) :
    (clearSucceeded s).faults = s.faults ∧ (clearSucceeded s).port = s.port := by
  unfold clearSucceeded
  rw [ready]
  exact ⟨rfl, rfl⟩

theorem clearSucceeded_of_stuck {s : State} (stuck : s.bus.stuck = true) :
    (clearSucceeded s).faults = (endFault .sensorBusStuck s).faults ∧
      (clearSucceeded s).port = (endFault .sensorBusStuck s).port := by
  unfold clearSucceeded
  rw [stuck]
  exact ⟨rfl, rfl⟩

/-- A failed clear makes a READY bus STUCK and raises the kind (R86). -/
theorem clearFailed_of_ready {s : State} (ready : s.bus.stuck = false) :
    clearFailed s =
      raise .sensorBusStuck 0 (setBusState { s.bus with activity := .idle, round := .done, stuck := true } s) := by
  unfold clearFailed
  rw [ready]
  rfl

/-- A failed clear of a STUCK bus answers its queue (R87). -/
theorem clearFailed_of_stuck {s : State} (stuck : s.bus.stuck = true) :
    (clearFailed s).bus = { s.bus with activity := .idle, round := .done, queue := [] } ∧
      (clearFailed s).faults = s.faults ∧ (clearFailed s).port = (s.bus.queue.foldl
        (fun u p => stage (.directiveDone p.tag 18 .busTimeout 1 []) u) s).port := by
  unfold clearFailed
  rw [if_pos stuck]
  dsimp only
  refine ⟨?_, ?_, ?_⟩
  · simp
  · simp
  · rw [stageTimeouts_eq_foldl]
    rfl

/-- Settles O36: a clear by its two ends, a poll and a pass-through that are given up as those that complete. -/
theorem busClears : Obligations.BusClears := by
  intro sda scl s k
  refine ⟨fun x clearing => ⟨?_, finishClear sda scl s, exec_busClearComplete clearing sda scl, fun high high' => ?_,
    fun low => ?_, ?devices, ?timer, ?frame⟩, fun i oldRound discard x polls => ?_, fun x p rest passes queue => ?_⟩
  case devices | timer =>
    by_cases high : sda && scl
    · rw [finishClear, if_pos high, clearSucceeded_bus]
      obtain ⟨timer, -, -, -, devices⟩ := free_keeps { s.bus with stuck := false }
      assumption
    · rw [finishClear, if_neg high]
      cases stuck : s.bus.stuck with
      | true => rw [(clearFailed_of_stuck stuck).1]
      | false => simp [clearFailed_of_ready stuck]
  case frame => simp
  · rw [exec_sclHoldTimeout, clearing, exec_busClearComplete clearing]
  · rw [finishClear, if_pos (by rw [high, high']; rfl), clearSucceeded_bus]
    obtain ⟨-, stuck, -, queue, -⟩ := free_keeps { s.bus with stuck := false }
    refine ⟨stuck, queue, Bus.free_takesUp _, clearSucceeded_of_ready, clearSucceeded_of_stuck, fun wasStuck active => ?_⟩
    rw [(clearSucceeded_of_stuck wasStuck).1, endFault_get_same, if_pos active]
  · have fails : finishClear sda scl s = clearFailed s := by
      rw [finishClear, if_neg]
      rcases low with low | low <;> simp [low]
    rw [fails]
    refine ⟨?_, fun ready => ?_, fun stuck => ?_⟩
    · cases stuck : s.bus.stuck with
      | true => rw [(clearFailed_of_stuck stuck).1, ← stuck]
      | false => simp [clearFailed_of_ready stuck]
    · rw [clearFailed_of_ready ready, raise_get_same, raised_startAck]
      exact ⟨by simp, rfl, rfl⟩
    · obtain ⟨bus, faults, port⟩ := clearFailed_of_stuck stuck
      exact ⟨by rw [bus], faults, port⟩
  · obtain ⟨gone, taken, others⟩ := finishPoll_device s.bus i oldRound discard Device.miss true
    obtain ⟨-, -, -, devices⟩ := finishPoll_keeps s.bus i oldRound discard Device.miss true
    refine ⟨{ s with bus := s.bus.finishPoll i oldRound discard Device.miss true }, ?_, rfl, gone, taken, others, ?_⟩
    · rw [exec_sclHoldTimeout, polls]
      rfl
    · rw [devices]
      exact finishPoll_eq s.bus i oldRound discard (act := Device.miss) (fun _ => rfl) true
  · refine ⟨_, ?_, rfl⟩
    rw [exec_sclHoldTimeout, passes]
    exact congrArg Host.Outcome.next (finishPass_eq (fun _ => .plain .busTimeout 0) true s (b := s.bus) queue)

end Sys2Proof.Proofs

/-! The wheel pulse tracker (R102 to R116): pulses, SET_WHEEL, and the evaluation and fusion at a computation. -/

namespace Sys2Proof.Proofs
open Sys2Proof.Machine

/-! ### The records of the three wheels -/

theorem wheel_get_put_same (t : Tracker) (w : Wheel) (r : WheelRecord) : (t.put w r).get w = r := by cases w <;> rfl

theorem wheel_get_put_ne (t : Tracker) {w u : Wheel} (r : WheelRecord) (other : u ≠ w) :
    (t.put w r).get u = t.get u := by
  cases w <;> cases u <;> first | rfl | exact absurd rfl other

/-! ### Pulses -/

theorem rejects_iff (w : WheelRecord) (d : Nat) :
    w.rejects d = true ↔ d = 0 ∨ ∃ p, w.lastPeriod = some p ∧ d * 100 < 40 * p := by
  unfold WheelRecord.rejects
  cases w.lastPeriod <;> simp

/-- A rejected pulse changes the runs alone, the eighth in succession entering NOISY (R106). -/
theorem reject_eq (w : WheelRecord) :
    w.reject = { w with rejectRun := bump 8 w.rejectRun, acceptRun := 0
                        state := if 7 ≤ w.rejectRun then .noisy else w.state } := by
  have eighth : bump 8 w.rejectRun = 8 ↔ 7 ≤ w.rejectRun := by
    unfold bump
    split <;> omega
  unfold WheelRecord.reject
  dsimp only
  rw [if_congr eighth rfl rfl]

theorem accept_of_not_noisy {w : WheelRecord} (calm : w.state ≠ .noisy) (stamp : Stamp) (d : Nat) :
    w.accept stamp d = { w.measure stamp d with acceptRun := 0, state := .rolling } := by
  unfold WheelRecord.accept
  cases state : w.state with
  | noisy => exact absurd state calm
  | stopped | rolling | decaying => rfl

theorem accept_of_noisy {w : WheelRecord} (noisy : w.state = .noisy) (stamp : Stamp) (d : Nat) :
    w.accept stamp d =
      if w.acceptRun + 1 < 4 then { w.measure stamp d with acceptRun := w.acceptRun + 1 }
      else { w.measure stamp d with acceptRun := 0, state := .rolling } := by
  unfold WheelRecord.accept
  rw [noisy]

/-- A wheel's reference is too old for the interval where the wheel has stopped or is noisy (R105, R108). -/
def TooLate (w : WheelRecord) (d : Nat) : Prop := 400000 < d ∧ (w.state = .stopped ∨ w.state = .noisy)

theorem pulse_of_late {w : WheelRecord} {stamp ref : Stamp} (reference : w.reference = some ref)
    (late : TooLate w (interval stamp ref)) : w.pulse stamp = w.firstPulse stamp := by
  obtain ⟨old, state | state⟩ := late <;> rw [WheelRecord.pulse, reference] <;> dsimp only <;> rw [state] <;>
    exact if_pos old

theorem pulse_of_timely {w : WheelRecord} {stamp ref : Stamp} (reference : w.reference = some ref)
    (timely : ¬ TooLate w (interval stamp ref)) : w.pulse stamp = w.judge stamp (interval stamp ref) := by
  rw [WheelRecord.pulse, reference]
  dsimp only
  cases state : w.state with
  | stopped => exact if_neg fun old => timely ⟨old, .inl state⟩
  | noisy => exact if_neg fun old => timely ⟨old, .inr state⟩
  | rolling | decaying => rfl

/-- Settles O37. -/
theorem wheelPulse : Obligations.WheelPulse := by
  intro w s running old now
  have pulses (stamp : Stamp) : exec (.wheelPulse w stamp) s = .next
      (if stamp = s.wheels.counter then { s with wheels := s.wheels.put w (old.pulse now) } else s) := by
    change execWheelPulse w stamp s = _
    rw [execWheelPulse, running]
  refine ⟨fun other differs => by rw [pulses, if_neg differs],
    { s with wheels := s.wheels.put w (old.pulse now) }, by rw [pulses, if_pos rfl], rfl,
    fun u other => wheel_get_put_ne _ _ other, ?_⟩
  have got : (s.wheels.put w (old.pulse now)).get w = old.pulse now := wheel_get_put_same ..
  dsimp only
  rw [got]
  refine ⟨rfl, fun none => ?_, fun ref reference => ?_⟩
  · rw [WheelRecord.pulse, none]
    rfl
  have accepts (onTime : ¬ TooLate old (interval now ref)) (fits : ¬ (interval now ref = 0 ∨
      ∃ p, old.lastPeriod = some p ∧ interval now ref * 100 < 40 * p)) :
      old.pulse now = old.accept now (interval now ref) := by
    rw [pulse_of_timely reference onTime, WheelRecord.judge, if_neg fun rejects => fits ((rejects_iff _ _).1 rejects)]
  refine ⟨fun isLate => pulse_of_late reference isLate, fun onTime bad => ?_, fun onTime fits calm => ?_,
    fun onTime fits noisy few => ?_, fun onTime fits noisy fourth => ?_⟩
  · rw [pulse_of_timely reference onTime, WheelRecord.judge, if_pos ((rejects_iff old (interval now ref)).2 bad), reject_eq]
  · rw [accepts onTime fits]
    exact accept_of_not_noisy calm now _
  · rw [accepts onTime fits, accept_of_noisy noisy]
    exact if_pos (by omega)
  · rw [accepts onTime fits, accept_of_noisy noisy]
    exact if_neg (by omega)

/-! ### SET_WHEEL -/

theorem wheelOfCode_code (w : Wheel) : wheelOfCode w.code = some w := by cases w <;> rfl

theorem wheelOfCode_of_beyond {n : Nat} (beyond : 2 < n) : wheelOfCode n = none := by
  match n with
  | 0 | 1 | 2 => omega
  | n + 3 => rfl

/-- A value is counted as clamped where the clamped one differs. -/
theorem outOf_eq_ne {lo hi : Nat} (range : lo ≤ hi) (x : Nat) :
    outOf lo hi x = if max lo (min hi x) = x then 0 else 1 := by
  unfold outOf
  by_cases out : x < lo ∨ hi < x
  · rw [if_pos out, if_neg (by omega)]
  · rw [if_neg out, if_pos (by omega)]

/-- Settles O39. -/
theorem setWheel : Obligations.SetWheel := by
  intro tag body s r teeth circumference clamped
  have taken : r = answered (Machine.setWheel body s) := rfl
  refine ⟨fun beyond => ?_, fun w index => ?_⟩
  · rw [taken, Machine.setWheel, wheelOfCode_of_beyond beyond]
    rfl
  rw [Machine.setWheel, index, wheelOfCode_code] at taken
  dsimp only at taken
  refine ⟨fun moving => taken.trans (congrArg answered (if_neg moving)), fun off => ?_⟩
  rw [if_pos off, clampCount_eq (by decide), clampCount_eq (by decide), outOf_eq_ne (by decide),
    outOf_eq_ne (by decide)] at taken
  have few : clamped ≤ 255 := by
    simp only [clamped]
    split <;> split <;> omega
  have answers : Done.clamped clamped = if clamped = 0 then .plain .accepted 0 else .plain .acceptedClamped clamped := by
    rw [Done.clamped, min_eq_right few]
  have wheels : r.1.wheels = s.wheels.put w { WheelRecord.stoppedWith teeth circumference with
      shown := (s.wheels.get w).shown } := congrArg (fun r : State × Option Done => r.1.wheels) taken
  refine ⟨?_, ?_, ?_, ?_, fun u other => ?_⟩
  · rw [← answers]
    exact congrArg Prod.snd taken
  · rw [wheels]
    exact congrArg Prod.fst taken
  · rw [wheels, wheel_get_put_same]
    rfl
  · rw [wheels, wheel_get_put_same]
  · rw [wheels, wheel_get_put_ne _ _ other]

/-! ### Evaluation -/

/-- The record an evaluation leaves, shown until the next computation (R109, R117). -/
def evaluatedAt (w : WheelRecord) (now : Stamp) : WheelRecord := (w.evaluate now).show

theorem evaluate_of_none {w : WheelRecord} (none : w.reference = none) (now : Stamp) : w.evaluate now = w := by
  rw [WheelRecord.evaluate, none]

section
variable {w : WheelRecord} {ref now : Stamp} (reference : w.reference = some ref)
include reference

theorem evaluate_of_old (old : 400000 < interval now ref) : w.evaluate now = w.stop := by
  rw [WheelRecord.evaluate, reference]
  exact if_pos old

theorem evaluate_of_recent (recent : interval now ref ≤ 400000) :
    w.evaluate now = match w.state with
      | .rolling =>
        match w.lastPeriod with
        | some p => if 2 * p < interval now ref then
            { w with state := .decaying, speed := w.decayed (interval now ref) } else w
        | none => w
      | .decaying => { w with speed := w.decayed (interval now ref) }
      | .stopped => w
      | .noisy => w := by
  rw [WheelRecord.evaluate, reference]
  exact if_neg (by omega)

theorem evaluate_of_rolling (recent : interval now ref ≤ 400000) (rolling : w.state = .rolling) :
    w.evaluate now = if ∃ p, w.lastPeriod = some p ∧ 2 * p < interval now ref then
      { w with state := .decaying, speed := w.decayed (interval now ref) } else w := by
  rw [evaluate_of_recent reference recent, rolling]
  cases period : w.lastPeriod with
  | none => simp
  | some p => simp

theorem evaluate_of_decaying (recent : interval now ref ≤ 400000) (decaying : w.state = .decaying) :
    w.evaluate now = { w with speed := w.decayed (interval now ref) } := by
  rw [evaluate_of_recent reference recent, decaying]

theorem evaluate_of_still (recent : interval now ref ≤ 400000) (still : w.state = .stopped ∨ w.state = .noisy) :
    w.evaluate now = w := by
  rcases still with state | state <;> rw [evaluate_of_recent reference recent, state]

end

theorem stop_of_moving {w : WheelRecord} (moving : w.state = .rolling ∨ w.state = .decaying) :
    w.stop = { w with state := .stopped, speed := 0, reference := none, lastPeriod := none, rejectRun := 0
                      acceptRun := 0 } := by
  rcases moving with state | state <;> rw [WheelRecord.stop, state]

theorem stop_of_stopped {w : WheelRecord} (stopped : w.state = .stopped) : w.stop = { w with reference := none } := by
  rw [WheelRecord.stop, stopped]

theorem stop_of_noisy {w : WheelRecord} (noisy : w.state = .noisy) :
    w.stop = { w with speed := 0, reference := none, lastPeriod := none, acceptRun := 0 } := by
  rw [WheelRecord.stop, noisy]

/-! ### Fusion -/

theorem distance_eq (a b : Nat) : distance a b = ((a : Int) - b).natAbs := by
  unfold distance
  omega

theorem allRolling_eq (t : Tracker) :
    (!t.allRolling) = decide (t.frontLeft.state ≠ .rolling ∨ t.frontRight.state ≠ .rolling ∨ t.rear.state ≠ .rolling) := by
  unfold Tracker.allRolling
  by_cases a : t.frontLeft.state = .rolling <;> by_cases b : t.frontRight.state = .rolling <;>
    by_cases c : t.rear.state = .rolling <;> simp [a, b, c]

/-- A wheel is valid (R111). -/
theorem valid_eq (t : Tracker) (w : WheelRecord) :
    t.valid w =
      let m := median t.frontLeft.speed t.frontRight.speed t.rear.speed
      (w.state != .noisy && (decide (t.frontLeft.state ≠ .rolling ∨ t.frontRight.state ≠ .rolling ∨
        t.rear.state ≠ .rolling) || decide (((w.speed : Int) - m).natAbs ≤ rdivNat (m * 30) 100 + 50))) := by
  unfold Tracker.valid
  dsimp only
  rw [allRolling_eq, distance_eq]
  rfl

/-- The fused speed by which wheels are valid and by the three speeds (R112). -/
def fusedBy (left right rear : Bool) (x y z : Nat) : Option Nat :=
  match left, right, rear with
  | true, true, true => some (median x y z)
  | true, true, false => some (min x y)
  | true, false, true => some (min x z)
  | false, true, true => some (min y z)
  | true, false, false => some x
  | false, true, false => some y
  | false, false, true => some z
  | false, false, false => none

theorem fused_eq (t : Tracker) {a b c : Bool} (left : t.valid t.frontLeft = a) (right : t.valid t.frontRight = b)
    (rear : t.valid t.rear = c) : t.fused = fusedBy a b c t.frontLeft.speed t.frontRight.speed t.rear.speed := by
  subst left right rear
  rfl

theorem fused_isSome_iff (t : Tracker) : t.fused.isSome = true ↔ 0 < t.validCount := by
  unfold Tracker.validCount
  cases left : t.valid t.frontLeft <;> cases right : t.valid t.frontRight <;> cases rear : t.valid t.rear <;>
    simp [fused_eq t left right rear, fusedBy, bit]

theorem hold_of_fused {t : Tracker} {v : Nat} (fused : t.fused = some v) :
    t.hold = { t with heldSpeed := v, holdCount := 0 } := by
  rw [Tracker.hold, fused]

theorem hold_of_none {t : Tracker} (fused : t.fused = none) : t.hold = { t with holdCount := bump 10 t.holdCount } := by
  rw [Tracker.hold, fused]

/-! ### The two conditions -/

section
variable {s : State}

theorem updateSpeedLost_of_lost (tenth : 10 ≤ s.wheels.holdCount) (free : s.wheels.lostRaised = false) :
    updateSpeedLost false s = raise .speedLost 0 { s with wheels := { s.wheels with lostRaised := true } } := by
  unfold updateSpeedLost
  rw [if_pos (by simp [tenth, free])]

theorem updateSpeedLost_of_found (raised : s.wheels.lostRaised = true) :
    updateSpeedLost true s = endFault .speedLost { s with wheels := { s.wheels with lostRaised := false } } := by
  unfold updateSpeedLost
  rw [if_neg (by simp), if_pos (by simp [raised])]

theorem updateSpeedLost_of_valid (free : s.wheels.lostRaised = false) : updateSpeedLost true s = s := by
  unfold updateSpeedLost
  rw [if_neg (by simp), if_neg (by simp [free])]

theorem updateSpeedLost_of_held (held : s.wheels.lostRaised = true ∨ s.wheels.holdCount < 10) :
    updateSpeedLost false s = s := by
  unfold updateSpeedLost
  rw [if_neg _, if_neg (by simp)]
  rcases held with raised | few
  · simp [raised]
  · simp [Nat.not_le.2 few]

/-- SPEED_LOST with a valid wheel (R115). -/
theorem updateSpeedLost_true :
    (updateSpeedLost true s).wheels = { s.wheels with lostRaised := false } ∧
      (updateSpeedLost true s).faults.get .speedLost =
        if s.wheels.lostRaised then FaultRecord.ended (s.faults.get .speedLost) else s.faults.get .speedLost := by
  cases raised : s.wheels.lostRaised with
  | true =>
    rw [updateSpeedLost_of_found raised, endFault_get_same]
    exact ⟨by simp, rfl⟩
  | false =>
    rw [updateSpeedLost_of_valid raised, ← raised]
    exact ⟨rfl, by simp [raised]⟩

/-- SPEED_LOST without a valid wheel (R113). -/
theorem updateSpeedLost_false :
    (updateSpeedLost false s).wheels = { s.wheels with
      lostRaised := s.wheels.lostRaised || decide (10 ≤ s.wheels.holdCount) } ∧
    (s.wheels.lostRaised = false → 10 ≤ s.wheels.holdCount →
      (updateSpeedLost false s).faults.get .speedLost = ((s.faults.get .speedLost).raised false 0).startAck) ∧
    (s.wheels.lostRaised = true ∨ s.wheels.holdCount < 10 →
      (updateSpeedLost false s).faults.get .speedLost = s.faults.get .speedLost) := by
  refine ⟨?_, fun free tenth => ?_, fun held => by rw [updateSpeedLost_of_held held]⟩
  · by_cases held : s.wheels.lostRaised = true ∨ s.wheels.holdCount < 10
    · have flag : (s.wheels.lostRaised || decide (10 ≤ s.wheels.holdCount)) = s.wheels.lostRaised := by
        rcases held with raised | few
        · simp [raised]
        · simp [Nat.not_le.2 few]
      rw [updateSpeedLost_of_held held, flag]
    · obtain ⟨free, tenth⟩ := not_or.1 held
      rw [updateSpeedLost_of_lost (Nat.not_lt.1 tenth) (by simpa using free)]
      simp [Nat.not_lt.1 tenth]
  · rw [updateSpeedLost_of_lost tenth free, raise_get_same]
    rfl

theorem updateSpeedLost_get_ne (anyValid : Bool) {k : FaultKind} (other : k ≠ .speedLost) :
    (updateSpeedLost anyValid s).faults.get k = s.faults.get k := by
  unfold updateSpeedLost
  split
  · exact raise_get_ne _ _ _ other
  · split
    · exact endFault_get_ne _ _ other
    · rfl

theorem updateWheelDegraded_of_few {count : Nat} (few : count < 2) (free : s.wheels.degradedRaised = false)
    (lowest : Nat) :
    updateWheelDegraded count lowest s =
      raise .wheelDegraded lowest { s with wheels := { s.wheels with degradedRaised := true } } := if_pos ⟨few, free⟩

theorem updateWheelDegraded_of_many {count : Nat} (many : 2 ≤ count) (raised : s.wheels.degradedRaised = true)
    (lowest : Nat) :
    updateWheelDegraded count lowest s =
      endFault .wheelDegraded { s with wheels := { s.wheels with degradedRaised := false } } :=
  (if_neg fun both => by omega).trans (if_pos ⟨many, raised⟩)

theorem updateWheelDegraded_of_same {count : Nat} (same : s.wheels.degradedRaised = decide (count < 2))
    (lowest : Nat) : updateWheelDegraded count lowest s = s := by
  refine (if_neg fun both => ?_).trans (if_neg fun both => ?_)
  · rw [both.2] at same
    simp [both.1] at same
  · rw [both.2] at same
    simp at same
    omega

theorem updateWheelDegraded_raised (count lowest : Nat) :
    (updateWheelDegraded count lowest s).wheels = { s.wheels with degradedRaised := decide (count < 2) } := by
  by_cases same : s.wheels.degradedRaised = decide (count < 2)
  · rw [updateWheelDegraded_of_same same, ← same]
  by_cases few : count < 2
  · rw [updateWheelDegraded_of_few few (by simpa [few] using same)]
    simp [few]
  · rw [updateWheelDegraded_of_many (by omega) (by simpa [few] using same)]
    simp [few]

theorem updateWheelDegraded_get_ne (count lowest : Nat) {k : FaultKind} (other : k ≠ .wheelDegraded) :
    (updateWheelDegraded count lowest s).faults.get k = s.faults.get k := by
  unfold updateWheelDegraded
  split
  · exact raise_get_ne _ _ _ other
  · split
    · exact endFault_get_ne _ _ other
    · rfl

end

/-! ### The selector touches no kind of the tracker's -/

theorem resolve_get_of_other {k : FaultKind} (other : ∀ q c, conditionKind q c ≠ some k) (m : Mode) (q : Quantity)
    (phi : Int) (s : State) : (resolve m q phi s).1.faults.get k = s.faults.get k := by
  have ends (c : Raised) (u : State) : (endCondition (conditionKind q c) u).faults.get k = u.faults.get k := by
    cases kind : conditionKind q c with
    | none => rfl
    | some j => exact endFault_get_ne _ _ fun same => other q c (same ▸ kind)
  have raises (c : Raised) (u : State) : (raiseCondition (conditionKind q c) u).faults.get k = u.faults.get k := by
    cases kind : conditionKind q c with
    | none => rfl
    | some j => exact raise_get_ne _ _ _ fun same => other q c (same ▸ kind)
  unfold resolve updateCondition
  dsimp only
  split
  · simp
  · rw [raises, ends]
    simp

theorem selectorStage_get_of_other {k : FaultKind} (other : ∀ q c, conditionKind q c ≠ some k) (m : Mode) (s : State) :
    (selectorStage m s).1.faults.get k = s.faults.get k := by
  unfold selectorStage
  simp only [resolve_get_of_other other]

/-! ### The tracker's stage -/

/-- What a computation's start leaves of the tracker and of its two kinds is what the tracker's stage leaves, on a state
with the same tracker and the same records of the two kinds. -/
theorem startComputation_tracker (s : State) :
    ∃ u : State, u.wheels = s.wheels ∧ u.faults.get .speedLost = s.faults.get .speedLost ∧
      u.faults.get .wheelDegraded = s.faults.get .wheelDegraded ∧
      (startComputation s).wheels = (trackerStage u).1.wheels ∧
      (startComputation s).faults = (trackerStage u).1.faults := by
  let started : State := { s with law := { s.law with timer := some 2000, cycle := s.law.nextCycle, started := true } }
  refine ⟨(selectorStage s.seq.mode started).1, ?_, ?_, ?_, rfl, rfl⟩
  · simp [started]
  · rw [selectorStage_get_of_other fun q c => by cases q <;> cases c <;> decide]
  · rw [selectorStage_get_of_other fun q c => by cases q <;> cases c <;> decide]

theorem hold_wheels (t : Tracker) :
    t.hold.frontLeft = t.frontLeft ∧ t.hold.frontRight = t.frontRight ∧ t.hold.rear = t.rear ∧
      t.hold.degradedRaised = t.degradedRaised ∧ t.hold.lostRaised = t.lostRaised := by
  unfold Tracker.hold
  split <;> exact ⟨rfl, rfl, rfl, rfl, rfl⟩

theorem median_spec (x y z : Nat) :
    (median x y z = x ∨ median x y z = y ∨ median x y z = z) ∧ min x y ≤ median x y z ∧ median x y z ≤ max x y ∧
      min x z ≤ median x y z ∧ median x y z ≤ max x z ∧ min y z ≤ median x y z ∧ median x y z ≤ max y z := by
  unfold median
  omega

theorem updateSpeedLost_degradedRaised (anyValid : Bool) (s : State) :
    (updateSpeedLost anyValid s).wheels.degradedRaised = s.wheels.degradedRaised := by
  obtain ⟨lost, wheels⟩ := updateSpeedLost_wheels anyValid s
  rw [wheels]

/-- WHEEL_DEGRADED after the tracker's stage (R114). -/
theorem trackerStage_degraded (u : State) :
    let n := u.wheels.evaluated.validCount
    let new := (trackerStage u).1.faults.get .wheelDegraded
    (n < 2 → u.wheels.degradedRaised = false →
      new = ((u.faults.get .wheelDegraded).raised false u.wheels.evaluated.lowestInvalid).startAck) ∧
    (2 ≤ n → u.wheels.degradedRaised = true → new = FaultRecord.ended (u.faults.get .wheelDegraded)) ∧
    (u.wheels.degradedRaised = decide (n < 2) → new = u.faults.get .wheelDegraded) := by
  intro n new
  let kept := updateSpeedLost u.wheels.evaluated.fused.isSome { u with wheels := u.wheels.evaluated.hold }
  have flag : kept.wheels.degradedRaised = u.wheels.degradedRaised :=
    (updateSpeedLost_degradedRaised _ _).trans (hold_wheels _).2.2.2.1
  have record : kept.faults.get .wheelDegraded = u.faults.get .wheelDegraded := updateSpeedLost_get_ne _ (by decide)
  have staged : (trackerStage u).1 = updateWheelDegraded n u.wheels.evaluated.lowestInvalid kept := rfl
  simp only [new]
  rw [staged]
  refine ⟨fun few free => ?_, fun many raised => ?_, fun same => ?_⟩
  · rw [updateWheelDegraded_of_few few (flag.trans free), raise_get_same]
    simp only [record]
    rfl
  · rw [updateWheelDegraded_of_many many (flag.trans raised), endFault_get_same]
    simp only [record]
    rfl
  · rw [updateWheelDegraded_of_same (flag.trans same), record]

/-- The tracker and SPEED_LOST after the tracker's stage (R112, R113, R115). -/
theorem trackerStage_speed (u : State) :
    let ev := u.wheels.evaluated
    let t := (trackerStage u).1
    (∀ v, ev.fused = some v → t.wheels =
        { ev with heldSpeed := v, holdCount := 0, lostRaised := false, degradedRaised := decide (ev.validCount < 2) } ∧
      t.faults.get .speedLost = if u.wheels.lostRaised then FaultRecord.ended (u.faults.get .speedLost)
        else u.faults.get .speedLost) ∧
    (ev.fused = none → t.wheels =
        { ev with holdCount := bump 10 u.wheels.holdCount
                  lostRaised := u.wheels.lostRaised || decide (9 ≤ u.wheels.holdCount)
                  degradedRaised := decide (ev.validCount < 2) } ∧
      (u.wheels.lostRaised = false → 9 ≤ u.wheels.holdCount →
        t.faults.get .speedLost = ((u.faults.get .speedLost).raised false 0).startAck) ∧
      (u.wheels.lostRaised = true ∨ u.wheels.holdCount < 9 →
        t.faults.get .speedLost = u.faults.get .speedLost)) := by
  intro ev t
  have record : t.faults.get .speedLost =
      (updateSpeedLost ev.fused.isSome { u with wheels := ev.hold }).faults.get .speedLost :=
    updateWheelDegraded_get_ne _ _ (by decide)
  have wheels : t.wheels = { (updateSpeedLost ev.fused.isSome { u with wheels := ev.hold }).wheels with
      degradedRaised := decide (ev.validCount < 2) } := updateWheelDegraded_raised _ _
  refine ⟨fun v fused => ?_, fun fused => ?_⟩
  · rw [record, wheels, fused, hold_of_fused fused]
    obtain ⟨flag, ended⟩ := updateSpeedLost_true (s := { u with wheels := { ev with heldSpeed := v, holdCount := 0 } })
    rw [Option.isSome_some, flag]
    exact ⟨rfl, ended⟩
  · rw [record, wheels, fused, hold_of_none fused]
    obtain ⟨flag, raises, stays⟩ :=
      updateSpeedLost_false (s := { u with wheels := { ev with holdCount := bump 10 ev.holdCount } })
    have count : ev.holdCount = u.wheels.holdCount := rfl
    have tenth : 10 ≤ bump 10 ev.holdCount ↔ 9 ≤ u.wheels.holdCount := by
      rw [count]
      unfold bump
      split <;> omega
    rw [Option.isSome_none, flag]
    refine ⟨?_, fun free ninth => raises free (tenth.2 ninth), fun held => stays (held.imp_right fun few => ?_)⟩
    · simp only [tenth]
      rfl
    · exact Nat.lt_of_not_le fun ten => absurd (tenth.1 ten) (by omega)

/-- Settles O38. -/
theorem wheelEvaluationAndFusion : Obligations.WheelEvaluationAndFusion := by
  refine ⟨median_spec, fun s n timer free => ?_⟩
  obtain ⟨u, tracker, lostRecord, degradedRecord, wheels, faults⟩ := startComputation_tracker s
  have expires : exec (.controlCycleExpiry s.wheels.counter) s = .next (startComputation s) := by
    simp [exec, execControlCycleExpiry, timer, completeInProgress, free]
  refine ⟨startComputation s, expires, ?_⟩
  generalize startComputation s = t at wheels faults
  obtain ⟨served, heldOver⟩ := trackerStage_speed u
  obtain ⟨degrades, recovers, same⟩ := trackerStage_degraded u
  rw [tracker, ← wheels, ← faults, lostRecord] at served heldOver
  rw [tracker, ← faults, degradedRecord] at degrades recovers same
  have shape : ∃ held count lost, t.wheels = { s.wheels.evaluated with
      heldSpeed := held, holdCount := count, lostRaised := lost
      degradedRaised := decide (s.wheels.evaluated.validCount < 2) } := by
    cases fused : s.wheels.evaluated.fused with
    | some v => exact ⟨_, _, _, (served v fused).1⟩
    | none => exact ⟨_, _, _, (heldOver fused).1⟩
  obtain ⟨held, holds, lost, shape⟩ := shape
  refine ⟨fun w => ?evaluation, ?_⟩
  case evaluation =>
    intro old new keeps
    have record : new = (old.evaluate s.wheels.counter).show := by
      simp only [new]
      rw [shape]
      cases w <;> rfl
    have kept {r : WheelRecord} (evaluated : old.evaluate s.wheels.counter = r) : keeps r := by
      simp only [keeps]
      rw [record, evaluated]
      rfl
    refine ⟨fun none => kept (evaluate_of_none none _), fun ref reference => ?_⟩
    refine ⟨fun stale moving => kept ?_, fun stale stopped => kept ?_, fun stale noisy => kept ?_,
      fun recent rolling overdue => kept ?_, fun recent rolling timely => kept ?_, fun _ recent decaying => kept ?_,
      fun recent still => kept (evaluate_of_still reference recent still)⟩
    · exact (evaluate_of_old reference stale).trans (stop_of_moving moving)
    · exact (evaluate_of_old reference stale).trans (stop_of_stopped stopped)
    · exact (evaluate_of_old reference stale).trans (stop_of_noisy noisy)
    · exact (evaluate_of_rolling reference recent rolling).trans (if_pos overdue)
    · exact (evaluate_of_rolling reference recent rolling).trans (if_neg timely)
    · exact evaluate_of_decaying reference recent decaying
  intro a b c m valid count ended
  have left : a = s.wheels.evaluated.frontLeft := by simp only [a]; rw [shape]
  have right : b = s.wheels.evaluated.frontRight := by simp only [b]; rw [shape]
  have rear : c = s.wheels.evaluated.rear := by simp only [c]; rw [shape]
  have valids (w : WheelRecord) : valid w = s.wheels.evaluated.valid w := by
    rw [valid_eq, ← left, ← right, ← rear]
  have counts : count = s.wheels.evaluated.validCount := by
    simp only [count, valids, left, right, rear]
    rfl
  have fusion {x y z : Bool} (ha : valid a = x) (hb : valid b = y) (hc : valid c = z) :
      s.wheels.evaluated.fused = fusedBy x y z a.speed b.speed c.speed := by
    rw [valids, left] at ha
    rw [valids, right] at hb
    rw [valids, rear] at hc
    rw [fused_eq _ ha hb hc, left, right, rear]
  have holding {v : Nat} (fused : s.wheels.evaluated.fused = some v) : t.wheels.heldSpeed = v := by
    rw [(served v fused).1]
  have none_iff : s.wheels.evaluated.fused = none ↔ count = 0 := by
    rw [counts, ← Option.not_isSome_iff_eq_none, fused_isSome_iff]
    omega
  have no {w : WheelRecord} (invalid : ¬ valid w = true) : valid w = false := by simpa using invalid
  refine ⟨fun ha hb hc => holding (fusion ha hb hc), fun ha hb hc => holding (fusion ha hb (no hc)),
    fun ha hb hc => holding (fusion ha (no hb) hc), fun ha hb hc => holding (fusion (no ha) hb hc),
    fun ha hb hc => holding (fusion ha (no hb) (no hc)), fun ha hb hc => holding (fusion (no ha) hb (no hc)),
    fun ha hb hc => holding (fusion (no ha) (no hb) hc), fun some => ?found, fun zero => ?lost, ?degraded,
    fun few raised => ?degrades, fun many raised => ?recovers, fun still => ?same⟩
  case found =>
    obtain ⟨v, fused⟩ := Option.ne_none_iff_exists'.1 fun none => absurd (none_iff.1 none) (by omega)
    obtain ⟨tracker, record⟩ := served v fused
    rw [tracker]
    exact ⟨rfl, rfl, record⟩
  case lost =>
    obtain ⟨tracker, raises, stays⟩ := heldOver (none_iff.2 zero)
    rw [tracker]
    refine ⟨rfl, rfl, rfl, fun free ninth => ?_, stays⟩
    rw [raises free ninth, raised_startAck]
    exact ⟨rfl, rfl⟩
  case degraded => exact (congrArg Tracker.degradedRaised shape).trans (decide_eq_decide.2 (by rw [counts]))
  case degrades =>
    rw [degrades (counts ▸ few) raised, raised_startAck]
    refine ⟨rfl, rfl, ?_⟩
    rw [valids, valids, left, right]
    simp only [Tracker.lowestInvalid]
    cases s.wheels.evaluated.valid s.wheels.evaluated.frontLeft <;>
      cases s.wheels.evaluated.valid s.wheels.evaluated.frontRight <;> rfl
  case recovers => exact recovers (counts ▸ many) raised
  case same => exact same (counts ▸ still)

end Sys2Proof.Proofs

/-! The source selector (R91 to R101): values and freshness, the resolution of a quantity, its reports, SET_SOURCES. -/

namespace Sys2Proof.Proofs
open Sys2Proof.Machine

/-! ### Values and freshness -/

theorem potFresh_iff (raw : Int) : potFresh raw = true ↔ 100 ≤ raw ∧ raw ≤ 3995 := by simp [potFresh]

theorem saturate_eq (q : Quantity) (x : Int) : q.saturate x = max q.lo (min q.hi x) :=
  clampInt_eq_max_min (by cases q <;> decide) x

/-- Settles O43. -/
theorem sourceValues : Obligations.SourceValues := by
  intro s q phi limit within scaled
  have bounds (q : Quantity) (x : Int) : q.saturate x = within (limit q) x := by
    rw [saturate_eq]
    cases q <;> rfl
  refine ⟨fun i => ⟨rfl, bounds q _⟩, potFresh_iff _, bounds .lean _, potFresh_iff _, bounds .steer _, rfl, rfl, ?_,
    ?_, rfl⟩
  · unfold State.sourceFresh
    cases s.sel.lean.state <;> simp
  · exact clampInt_eq_max_min (by decide) _

/-! ### The selector's records -/

theorem quantity_get_put_same (x : Selector) (q : Quantity) (r : QuantityRecord) : (x.put q r).get q = r := by
  cases q <;> rfl

theorem quantity_get_put_ne (x : Selector) {q q' : Quantity} (r : QuantityRecord) (other : q' ≠ q) :
    (x.put q r).get q' = x.get q' := by
  cases q <;> cases q' <;> first | rfl | exact absurd rfl other

theorem quantity_put_put (x : Selector) (q : Quantity) (r r' : QuantityRecord) : (x.put q r).put q r' = x.put q r' := by
  cases q <;> rfl

/-! ### The resolution, whole -/

theorem reportSource_eq (q : Quantity) (before after : Source) (s : State) :
    reportSource q before after s = { s with port := (reportSource q before after s).port } := by
  unfold reportSource
  split
  · rfl
  · exact stage_eq _ _

theorem reportSource_sel (q : Quantity) (before after : Source) (s : State) :
    (reportSource q before after s).sel = s.sel := by
  rw [reportSource_eq]

/-- A report of a source reads and writes nothing of the selector. -/
theorem reportSource_with_sel (q : Quantity) (before after : Source) (s : State) (x : Selector) :
    reportSource q before after { s with sel := x } = { reportSource q before after s with sel := x } := by
  unfold reportSource
  split
  · rfl
  · rw [stage_eq, stage_port_congr (s := s) (t := { s with sel := x }) _ rfl rfl, stage_eq _ s]

/-- The record a resolution moves to (Table 5-6). -/
def movedRecord (s : State) (q : Quantity) : QuantityRecord :=
  (s.sel.get q).move (s.sourceFresh q (s.sel.get q).primary) (s.sourceFresh q (s.sel.get q).fallback)

/-- The record a resolution leaves. -/
def resolvedRecord (taken : Mode) (s : State) (q : Quantity) (phi : Int) : QuantityRecord :=
  let moved := movedRecord s q
  { (moved.keepHeld (s.servedValue q phi moved)).show with raised := calledFor taken q moved.state }

theorem keepHeld_eq (r : QuantityRecord) (x : Int) :
    r.keepHeld x = { r with held := if r.state = .primary ∨ r.state = .fallback then x else r.held } := by
  unfold QuantityRecord.keepHeld
  split
  case h_1 state => rw [if_pos (.inl state)]
  case h_2 state => rw [if_pos (.inr state)]
  case h_3 state | h_4 state => rw [if_neg (by simp [state])]

/-- A move changes the state, the source in use and the counts alone (Table 5-6). -/
theorem move_keeps (p f : Bool) (r : QuantityRecord) :
    (r.move p f).primary = r.primary ∧ (r.move p f).fallback = r.fallback ∧ (r.move p f).held = r.held ∧
      (r.move p f).raised = r.raised ∧ (r.move p f).shown = r.shown := by
  unfold QuantityRecord.move QuantityRecord.toPrimary QuantityRecord.toFallback QuantityRecord.toHeld
  repeat' split
  all_goals exact ⟨rfl, rfl, rfl, rfl, rfl⟩

/-- The record a resolution leaves before the condition called for is kept in it. -/
def unraisedRecord (s : State) (q : Quantity) (phi : Int) : QuantityRecord :=
  ((movedRecord s q).keepHeld (s.servedValue q phi (movedRecord s q))).show

theorem unraisedRecord_keeps (s : State) (q : Quantity) (phi : Int) :
    (unraisedRecord s q phi).state = (movedRecord s q).state ∧
      (unraisedRecord s q phi).inUse = (movedRecord s q).inUse ∧
      (unraisedRecord s q phi).raised = (s.sel.get q).raised := by
  unfold unraisedRecord
  rw [keepHeld_eq]
  exact ⟨rfl, rfl, (move_keeps _ _ _).2.2.2.1⟩

/-- The state a resolution leaves, by whether the condition called for is the one raised (R94, R98, R99). -/
def resolvedState (taken : Mode) (q : Quantity) (phi : Int) (s : State) : State :=
  let old := s.sel.get q
  let new := resolvedRecord taken s q phi
  let kept : State := { reportSource q old.inUse new.inUse s with sel := s.sel.put q new }
  if new.raised = old.raised then kept
  else raiseCondition (conditionKind q new.raised) (endCondition (conditionKind q old.raised) kept)

theorem updateCondition_eq (taken : Mode) (q : Quantity) (s : State) {r : QuantityRecord} (record : s.sel.get q = r) :
    updateCondition taken q s =
      if calledFor taken q r.state = r.raised then s
      else raiseCondition (conditionKind q (calledFor taken q r.state)) (endCondition (conditionKind q r.raised)
        (putQuantity q { r with raised := calledFor taken q r.state } s)) := by
  subst record
  rfl

/-- A resolution, whole. -/
theorem resolve_eq (taken : Mode) (q : Quantity) (phi : Int) (s : State) :
    resolve taken q phi s = (resolvedState taken q phi s, s.servedValue q phi (movedRecord s q)) := by
  obtain ⟨state, inUse, raised⟩ := unraisedRecord_keeps s q phi
  have use : (resolvedRecord taken s q phi).inUse = (movedRecord s q).inUse := inUse
  have whole : resolve taken q phi s = (updateCondition taken q (reportSource q (s.sel.get q).inUse
      (movedRecord s q).inUse { s with sel := s.sel.put q (unraisedRecord s q phi) }),
      s.servedValue q phi (movedRecord s q)) := rfl
  have called : calledFor taken q (unraisedRecord s q phi).state = calledFor taken q (movedRecord s q).state := by
    rw [state]
  rw [whole, reportSource_with_sel, updateCondition_eq taken q _ (quantity_get_put_same _ q _), called, raised]
  refine congrArg (fun t => (t, s.servedValue q phi (movedRecord s q))) ?_
  unfold resolvedState
  dsimp only
  rw [use]
  by_cases same : calledFor taken q (movedRecord s q).state = (s.sel.get q).raised
  · have record : resolvedRecord taken s q phi = unraisedRecord s q phi :=
      congrArg (fun c => { unraisedRecord s q phi with raised := c }) (same.trans raised.symm)
    refine (if_pos same).trans (Eq.trans ?_ (if_pos same).symm)
    rw [record]
  · refine (if_neg same).trans (Eq.trans ?_ (if_neg same).symm)
    refine congrArg (fun x => raiseCondition _ (endCondition _ { reportSource q _ _ s with sel := x })) ?_
    exact quantity_put_put _ q _ _

theorem resolvedState_sel (taken : Mode) (q : Quantity) (phi : Int) (s : State) :
    (resolvedState taken q phi s).sel = s.sel.put q (resolvedRecord taken s q phi) := by
  unfold resolvedState
  dsimp only
  split
  · rfl
  · simp

/-! ### The cells of Table 5-6 -/

theorem calledFor_eq (taken : Mode) (q : Quantity) (st : QuantityState) :
    calledFor taken q st =
      if taken ≠ .off ∧ st = .lost then .lost
      else if taken ≠ .off ∧ st = .fallback ∧ q ≠ .torque then .fallback else .nothing := by
  unfold calledFor
  by_cases off : taken = .off
  · simp [off]
  · cases st <;> by_cases torque : q = .torque <;> simp [off, torque]

/-- The source a quantity's state names (Table 5-3). -/
def namedSource (r : QuantityRecord) : Source :=
  if r.state = .primary then r.primary else if r.state = .fallback then r.fallback else .absent

theorem move_named {r : QuantityRecord} (named : r.inUse = namedSource r) (p f : Bool) :
    (r.move p f).inUse = namedSource (r.move p f) := by
  have primary : r.toPrimary.inUse = namedSource r.toPrimary := rfl
  have fallback : r.toFallback.inUse = namedSource r.toFallback := rfl
  have held : r.toHeld.inUse = namedSource r.toHeld := rfl
  unfold QuantityRecord.move
  split
  case h_1 state => 
    split
    · exact named
    · split <;> assumption
  case h_2 state =>
    split
    · split
      · exact named
      · exact primary
    · split
      · exact named
      · exact held
  case h_3 state =>
    split
    · exact primary
    · split
      · exact fallback
      · split
        · exact named
        · exact named.trans (by simp [namedSource, state])
  case h_4 state =>
    split
    · exact primary
    · split
      · exact fallback
      · exact named

/-- LOST comes with a hold count of 10 (R96). -/
def LostCounts (r : QuantityRecord) : Prop := r.state = .lost → r.holdCount = 10

theorem move_lost {r : QuantityRecord} (ten : LostCounts r) (p f : Bool) : LostCounts (r.move p f) := by
  have primary : LostCounts r.toPrimary := nofun
  have fallback : LostCounts r.toFallback := nofun
  have held : LostCounts r.toHeld := nofun
  unfold QuantityRecord.move
  split
  case h_1 state =>
    split
    · exact fun lost => absurd (state.symm.trans lost) (by decide)
    · split <;> assumption
  case h_2 state =>
    have stays : r.state ≠ .lost := by rw [state]; decide
    split
    · split
      · exact fun lost => absurd lost stays
      · exact primary
    · split
      · exact fun lost => absurd lost stays
      · exact held
  case h_3 state =>
    split
    · exact primary
    · split
      · exact fallback
      · split
        · exact fun lost => absurd (state.symm.trans lost) (by decide)
        · exact fun _ => rfl
  case h_4 =>
    split
    · exact primary
    · split
      · exact fallback
      · exact ten

/-- Settles O42. -/
theorem sourceReports : Obligations.SourceReports := by
  refine ⟨fun taken q phi s => ?_, fun taken s => rfl⟩
  intro old r new kind ending raising told kept
  have whole : r.1 = resolvedState taken q phi s := congrArg Prod.fst (resolve_eq taken q phi s)
  have record : new = resolvedRecord taken s q phi := by
    simp only [new]
    rw [whole, resolvedState_sel, quantity_get_put_same]
  have kinds (c : Raised) : kind c = conditionKind q c := by cases c <;> cases q <;> rfl
  have ends (u : State) : ending u = endCondition (conditionKind q old.raised) u := by
    simp only [ending, kinds]
    cases conditionKind q old.raised <;> rfl
  have raises (u : State) : raising u = raiseCondition (conditionKind q new.raised) u := by
    simp only [raising, kinds]
    cases conditionKind q new.raised <;> rfl
  have tells : told = reportSource q old.inUse new.inUse s := if_congr eq_comm rfl rfl
  rw [whole, raises, ends]
  simp only [kept, tells]
  rw [record]
  rfl

/-! The cells of Table 5-6, by state and freshness. -/
section
variable {r : QuantityRecord} {p f : Bool}

theorem move_of_primary (state : r.state = .primary) :
    r.move p f = if p then { r with holdCount := 0 } else if f then r.toFallback else r.toHeld := by
  rw [QuantityRecord.move, state]

theorem move_of_fallback (state : r.state = .fallback) :
    r.move p f =
      if p then
        if r.returnCount + 1 < 25 ∧ f = true then { r with returnCount := r.returnCount + 1 } else r.toPrimary
      else if f then { r with returnCount := 0 } else r.toHeld := by
  rw [QuantityRecord.move, state]

theorem move_of_held (state : r.state = .held) :
    r.move p f =
      if p then r.toPrimary
      else if f then r.toFallback
      else if r.holdCount + 1 < 10 then { r with holdCount := r.holdCount + 1 }
      else { r with state := .lost, holdCount := 10 } := by
  rw [QuantityRecord.move, state]

theorem move_of_lost (state : r.state = .lost) :
    r.move p f = if p then r.toPrimary else if f then r.toFallback else r := by
  rw [QuantityRecord.move, state]

end

theorem servedValue_eq (s : State) (q : Quantity) (phi : Int) (r : QuantityRecord) :
    (r.state = .primary → s.servedValue q phi r = s.sourceValue q phi r.primary) ∧
    (r.state = .fallback → s.servedValue q phi r = s.sourceValue q phi r.fallback) ∧
    (r.state = .held → s.servedValue q phi r = r.held) ∧
    (r.state = .lost → s.servedValue q phi r = if q = .steer ∨ q = .torque then 0 else r.held) := by
  refine ⟨fun state => ?_, fun state => ?_, fun state => ?_, fun state => ?_⟩ <;> simp only [State.servedValue, state]
  cases q <;> rfl

/-- Settles O41: the record is the moved one with the served value kept and the condition called for, and each cell is
the move of its state. -/
theorem sourceResolution : Obligations.SourceResolution := by
  intro taken q phi s old p f r new called leaves named
  have whole : r = (resolvedState taken q phi s, s.servedValue q phi (movedRecord s q)) := resolve_eq taken q phi s
  have record : new = resolvedRecord taken s q phi := by
    simp only [new]
    rw [whole, resolvedState_sel, quantity_get_put_same]
  have value : r.2 = s.servedValue q phi (movedRecord s q) := congrArg Prod.snd whole
  obtain ⟨primary, fallback, held, -, -⟩ := move_keeps p f old
  have moved : movedRecord s q = old.move p f := rfl
  have shape : new = { old.move p f with
      held := if (old.move p f).state = .primary ∨ (old.move p f).state = .fallback then r.2 else (old.move p f).held
      raised := called (old.move p f).state
      shown := { state := (old.move p f).state, inUse := (old.move p f).inUse } } := by
    rw [record, resolvedRecord, keepHeld_eq, value, moved, calledFor_eq]
    rfl
  have state : new.state = (old.move p f).state := by rw [shape]
  have leaving {st : QuantityState} {use : Source} {holds returns : Nat}
      (cell : old.move p f = { old with state := st, inUse := use, holdCount := holds, returnCount := returns }) :
      leaves st use holds returns := by
    simp only [leaves]
    rw [shape, cell]
  obtain ⟨valuePrimary, valueFallback, valueHeld, valueLost⟩ := servedValue_eq s q phi (old.move p f)
  rw [← state, ← moved, ← value, moved] at valuePrimary valueFallback valueHeld valueLost
  rw [primary] at valuePrimary
  rw [fallback] at valueFallback
  rw [held] at valueHeld valueLost
  refine ⟨fun st => ⟨fun hp => leaving ?_, fun hp hf => leaving ?_, fun hp hf => leaving ?_⟩,
    fun st => ⟨fun hp hf few => leaving ?_, fun hp hf many => leaving ?_, fun hp hf => leaving ?_,
      fun hp hf => leaving ?_, fun hp hf => leaving ?_⟩,
    fun st => ⟨fun hp => leaving ?_, fun hp hf => leaving ?_, fun hp hf few => leaving ?_,
      fun hp hf many => leaving ?_⟩,
    fun st => ⟨fun hp => leaving ?_, fun hp hf => leaving ?_, fun hp hf => leaving ?_⟩,
    valuePrimary, valueFallback, valueHeld, valueLost, fun names => ?named, fun ten lost => ?lost, fun q' other => ?others,
    ?bus, ?conv⟩
  case named =>
    have kept := move_named (r := old) names p f
    rw [shape]
    refine kept.trans ?_
    simp only [namedSource, primary, fallback, named]
  case lost =>
    rw [shape]
    exact move_lost ten p f (state.symm.trans lost)
  case others => rw [whole, resolvedState_sel, quantity_get_put_ne _ _ other]
  case bus => simp only [r, resolve_keeps]
  case conv => simp only [r, resolve_keeps]
  · rw [move_of_primary st, if_pos hp, ← st]
  · rw [move_of_primary st, if_neg (ne_true_of_eq_false hp), if_pos hf]
    rfl
  · rw [move_of_primary st, if_neg (ne_true_of_eq_false hp), if_neg (ne_true_of_eq_false hf)]
    rfl
  · rw [move_of_fallback st, if_pos hp, if_pos ⟨by omega, hf⟩, ← st]
  · rw [move_of_fallback st, if_pos hp, if_neg (by omega)]
    rfl
  · rw [move_of_fallback st, if_pos hp, if_neg fun both => ne_true_of_eq_false hf both.2]
    rfl
  · rw [move_of_fallback st, if_neg (ne_true_of_eq_false hp), if_pos hf, ← st]
  · rw [move_of_fallback st, if_neg (ne_true_of_eq_false hp), if_neg (ne_true_of_eq_false hf)]
    rfl
  · rw [move_of_held st, if_pos hp]
    rfl
  · rw [move_of_held st, if_neg (ne_true_of_eq_false hp), if_pos hf]
    rfl
  · rw [move_of_held st, if_neg (ne_true_of_eq_false hp), if_neg (ne_true_of_eq_false hf), if_pos (by omega), ← st]
  · rw [move_of_held st, if_neg (ne_true_of_eq_false hp), if_neg (ne_true_of_eq_false hf), if_neg (by omega)]
  · rw [move_of_lost st, if_pos hp]
    rfl
  · rw [move_of_lost st, if_neg (ne_true_of_eq_false hp), if_pos hf]
    rfl
  · rw [move_of_lost st, if_neg (ne_true_of_eq_false hp), if_neg (ne_true_of_eq_false hf), ← st]

/-! ### SET_SOURCES -/

/-- A source code that Table 5-1 does not allow for a quantity. -/
def barredSource (q : Quantity) (c : Nat) : Bool :=
  decide (8 < c) || (c == 6 && q != .lean && q != .steer) || (c == 7 && q != .rate)

theorem clampSource_eq (q : Quantity) (c : Nat) :
    clampSource q c = if barredSource q c then (.absent, 1) else (Source.ofCode c, 0) := by
  rcases Nat.lt_or_ge 8 c with beyond | within
  · rw [clampSource, if_pos beyond, barredSource, decide_eq_true beyond]
    rfl
  · interval_cases c <;> cases q <;> rfl

/-- The reports of SET_SOURCES, in quantity order, of the sources in use of one selector and another. -/
def reportSources (old new : Selector) (s : State) : State :=
  [Quantity.lean, .rate, .steer, .torque].foldl
    (fun u q => reportSource q (old.get q).inUse (new.get q).inUse u) s

theorem reportSources_eq (old new : Selector) (s : State) :
    reportSources old new s = { s with port := (reportSources old new s).port } := by
  have each (q : Quantity) (u : State) := reportSource_eq q (old.get q).inUse (new.get q).inUse u
  simp only [reportSources, List.foldl_cons, List.foldl_nil]
  rw [each .torque, each .steer, each .rate, each .lean]

theorem reportSources_with_sel (old new x : Selector) (s : State) :
    reportSources old new { s with sel := x } = { reportSources old new s with sel := x } := by
  simp only [reportSources, List.foldl_cons, List.foldl_nil, reportSource_with_sel]

/-- Settles O40: each code is clamped as Table 5-1 bars it, and the reports are staged over the new selector. -/
theorem setSources : Obligations.SetSources := by
  intro tag body s r barred source entry quantities clamped
  have taken : r = answered (Machine.setSources body s) := rfl
  have codes (c : Nat) (low : c < 9) : (Source.ofCode c).code = c := by
    interval_cases c <;> rfl
  refine ⟨codes, fun moving => taken.trans (congrArg answered (if_neg moving)), fun off => ?_⟩
  have choice (q : Quantity) (c : Nat) :
      clampSource q c = (if barred q c then .absent else Source.ofCode c, if barred q c then 1 else 0) := by
    rw [clampSource_eq]
    exact (apply_ite₂ Prod.mk _ _ _ _ _).symm
  let count (q : Quantity) : Nat :=
    (if barred q (byteAt body (2 * q.code)) then 1 else 0) + (if barred q (byteAt body (2 * q.code + 1)) then 1 else 0)
  have two (q : Quantity) : count q ≤ 2 := by
    simp only [count]
    split <;> split <;> omega
  have remaps (q : Quantity) (u : State) (same : u.sel.get q = s.sel.get q) :
      remapQuantity q body u = (putQuantity q (entry q) u, count q) := by
    rw [remapQuantity, choice, choice, same]
    rfl
  have sum : clamped = count .lean + count .rate + count .steer + count .torque +
      (if 4095 < unsignedAt body 8 then 1 else 0) + (if 4095 < unsignedAt body 12 then 1 else 0) := by
    have quantityCounts : (quantities.map count).sum = count .lean + count .rate + count .steer + count .torque := by
      simp only [quantities, List.map_cons, List.map_nil, List.sum_cons, List.sum_nil]
      omega
    rw [← quantityCounts]
  have few : clamped ≤ 255 := by
    have := two .lean
    have := two .rate
    have := two .steer
    have := two .torque
    rw [sum]
    split <;> split <;> omega
  have answers : Done.clamped clamped = if clamped = 0 then .plain .accepted 0 else .plain .acceptedClamped clamped := by
    rw [Done.clamped, min_eq_right few]
  let new : Selector :=
    { lean := entry .lean, rate := entry .rate, steer := entry .steer, torque := entry .torque
      leanPot := { centre := min 4095 (unsignedAt body 8), gain := signedAt body 10 }
      steerPot := { centre := min 4095 (unsignedAt body 12), gain := signedAt body 14 }
      prevPhi := s.sel.prevPhi }
  have whole : Machine.setSources body s = (reportSources s.sel new { s with sel := new }, Done.clamped clamped) := by
    have second := remaps .rate (putQuantity .lean (entry .lean) s) rfl
    have third := remaps .steer (putQuantity .rate (entry .rate) (putQuantity .lean (entry .lean) s)) rfl
    have fourth := remaps .torque
      (putQuantity .steer (entry .steer) (putQuantity .rate (entry .rate) (putQuantity .lean (entry .lean) s))) rfl
    rw [Machine.setSources, if_pos off, sum, remaps .lean s rfl]
    have records : putQuantity .torque (entry .torque) (putQuantity .steer (entry .steer)
        (putQuantity .rate (entry .rate) (putQuantity .lean (entry .lean) s))) =
        { s with sel := { s.sel with lean := entry .lean, rate := entry .rate, steer := entry .steer
                                     torque := entry .torque } } := rfl
    simp only [second, third, fourth, records, reportSource_sel]
    rfl
  rw [← answers, taken, whole, reportSources_with_sel, reportSources_eq]
  rfl

end Sys2Proof.Proofs

/-! The conversion unit and the drive block (Chapters 7 and 8): the normal chain, the trigger, the periods and the
solenoid stage, the loop step and the over-current trip. -/

namespace Sys2Proof.Proofs
open Sys2Proof.Machine

/-! ### NORMAL_CONVERSION_COMPLETE -/

theorem sampleLow_conv (mv : Int) (s : State) : ∃ r, (sampleLow mv s).conv = { s.conv with low := r } := by
  simp only [sampleLow, applyCrossing_keeps]
  exact ⟨_, rfl⟩

theorem sampleHigh_conv (mv : Int) (s : State) : ∃ r, (sampleHigh mv s).conv = { s.conv with high := r } := by
  simp only [sampleHigh, applyCrossing_keeps]
  exact ⟨_, rfl⟩

theorem sampleHot_conv (b : Bridge) (temp : Int) (s : State) :
    ∃ r, (sampleHot b temp s).conv = s.conv.setHot b r := by
  refine ⟨((s.conv.hot b).sample (decide ((s.tuning.hotLimit : Int) < temp))
    (decide (temp < (s.tuning.hotLimit : Int) - 100))).1, ?_⟩
  unfold sampleHot
  dsimp only
  split
  · simp only [raise_keeps]
    rfl
  · simp only [endFault_keeps]
    rfl
  all_goals rfl

/-- The runs that watch a channel change nothing of the converter but themselves (R119). -/
theorem watch_conv (channel : NormalChannel) (s : State) : ∃ low high hotTilt hotSteer, (watch channel s).conv =
    { s.conv with low := low, high := high, hotTilt := hotTilt, hotSteer := hotSteer } := by
  cases channel with
  | an0 =>
    obtain ⟨low, lowered⟩ := sampleLow_conv s.conv.supply s
    obtain ⟨high, raised⟩ := sampleHigh_conv s.conv.supply (sampleLow s.conv.supply s)
    exact ⟨low, high, s.conv.hotTilt, s.conv.hotSteer, by rw [watch, raised, lowered]⟩
  | an1 =>
    obtain ⟨hot, heated⟩ := sampleHot_conv .tilt s.conv.tiltTemp s
    exact ⟨s.conv.low, s.conv.high, hot, s.conv.hotSteer, heated⟩
  | an2 =>
    obtain ⟨hot, heated⟩ := sampleHot_conv .steer s.conv.steerTemp s
    exact ⟨s.conv.low, s.conv.high, s.conv.hotTilt, hot, heated⟩
  | an3 => exact ⟨_, _, _, _, rfl⟩
  | an4 => exact ⟨_, _, _, _, rfl⟩
  | an5 => exact ⟨_, _, _, _, rfl⟩

/-- Each result is its channel's, at the chain's position, and the others stay (R118). -/
theorem store_eq (c : Converter) (raw : BitVec 12) : c.store raw =
    { c with
      supply := if c.position = .an0 then supplyOf raw else c.supply
      tiltTemp := if c.position = .an1 then temperatureOf raw else c.tiltTemp
      steerTemp := if c.position = .an2 then temperatureOf raw else c.steerTemp
      leanPot := if c.position = .an3 then potOf c.logic raw else c.leanPot
      steerPot := if c.position = .an4 then potOf c.logic raw else c.steerPot
      logic := if c.position = .an5 then supplyOf raw else c.logic } := by
  cases place : c.position <;> simp [Converter.store, place]

/-- Settles O44, by the channel at the chain's position. -/
theorem normalConversionComplete : Obligations.NormalConversionComplete := by
  intro raw s n busy c mv temp pot stored
  let done : Converter := { s.conv.store raw with position := s.conv.position.next, normal := some 10 }
  have whole : exec (.normalConversionComplete raw) s = .next (watch s.conv.position (setConv done s)) := by
    change execNormalConversionComplete raw s = _
    rw [execNormalConversionComplete, busy]
  obtain ⟨low, high, hotTilt, hotSteer, conv⟩ := watch_conv s.conv.position (setConv done s)
  have results : (∀ p, c.position = p → watch s.conv.position (setConv done s) =
      watch p (setConv { ({ c with position := p } : Converter).store raw with
        position := p.next, normal := some 10 } s)) := by
    intro p here
    rw [← here]
  simp only [setConv] at whole conv results
  refine ⟨_, whole, fun here => results _ here, fun here => results _ here, fun here => results _ here,
    fun here => results _ here, fun here => results _ here, fun here => results _ here, ?_⟩
  simp only [conv, watch_keeps, and_true]
  refine ⟨rfl, rfl, ?_⟩
  simp only [done, store_eq]
  exact ⟨rfl, rfl, rfl, rfl, rfl, rfl, rfl, rfl, rfl, rfl⟩

/-! ### The lines of the drive block, the trigger, the periods and the solenoid stage -/

/-- A level of width d × 50 ns about the period centre, d above 0 (R132). -/
theorem inPulse_iff {d : Int} (above : 0 < d) (ns : Int) :
    2 * |ns - 25000| < d * 50 ↔ (ns - 25000).natAbs < 25 * d.natAbs := by
  rw [Int.abs_eq_natAbs]
  omega

theorem lineA_eq {c : Channel} (on : c.state = .on) (ns : Int) :
    c.lineA ns = (decide (0 < c.applied) && decide (2 * |ns - 25000| < c.applied * 50)) := by
  simp [Channel.lineA, Channel.enableHigh, on]

theorem lineB_eq {c : Channel} (on : c.state = .on) (ns : Int) :
    c.lineB ns = (decide (c.applied < 0) && decide (2 * |ns - 25000| < -c.applied * 50)) := by
  simp [Channel.lineB, Channel.enableHigh, on]

/-- The A line as its B line with the duty's sign changed, and each low where the duty is not on its side (Table 8-2). -/
theorem lines_of_on {c : Channel} (on : c.state = .on) (ns : Int) :
    (0 < c.applied → c.lineB ns = false ∧ (c.lineA ns = true ↔ (ns - 25000).natAbs < 25 * c.applied.natAbs)) ∧
    (c.applied < 0 → c.lineA ns = false ∧ (c.lineB ns = true ↔ (ns - 25000).natAbs < 25 * c.applied.natAbs)) ∧
    (c.applied = 0 → c.lineA ns = false ∧ c.lineB ns = false) := by
  rw [lineA_eq on, lineB_eq on]
  refine ⟨fun above => ?_, fun below => ?_, fun zero => by simp [zero]⟩
  · simp [above, above.le, inPulse_iff above]
  · have width := inPulse_iff (d := -c.applied) (by omega) ns
    rw [Int.natAbs_neg] at width
    refine ⟨by simp [below.le], ?_⟩
    rw [decide_eq_true below, Bool.true_and, decide_eq_true_eq, width]

theorem load_eq (c : Channel) : c.load = { c with applied := if c.state = .on then c.duty else c.applied } := by
  obtain ⟨state, -, -, -, -, -, -⟩ := c
  cases state <;> rfl

/-- The hold level of LKS: 20 µs about the period centre (R142). -/
theorem inHold_iff (ns : Int) : 2 * |ns - 25000| < 20000 ↔ (ns - 25000).natAbs < 10000 := by
  rw [Int.abs_eq_natAbs]
  omega

/-- Settles O46. -/
theorem triggerPeriodAndSolenoid : Obligations.TriggerPeriodAndSolenoid := by
  refine ⟨fun c ns => ⟨by simp [Channel.enableHigh], fun off => ?low, fun on => ?lines⟩,
    fun d ns => ⟨fun stage => ?_, fun stage => ?_, fun stage free => ?_, fun stage driven => ?_⟩,
    fun s n => ⟨fun runs => ?trigger, fun runs => ?period, fun stage runs => ?expiry, fun off => ?_, fun on => ?_, ?same⟩⟩
  case low => simp [Channel.lineA, Channel.lineB, Channel.enableHigh, off]
  case lines =>
    obtain ⟨above, below, zero⟩ := lines_of_on on ns
    refine ⟨fun positive => ?_, fun negative => ?_, zero⟩
    · obtain ⟨other, pulse⟩ := above positive
      exact ⟨other, pulse.2, fun out => Bool.eq_false_iff.2 fun high => Nat.lt_asymm out (pulse.1 high)⟩
    · obtain ⟨other, pulse⟩ := below negative
      exact ⟨other, pulse.2, fun out => Bool.eq_false_iff.2 fun high => Nat.lt_asymm out (pulse.1 high)⟩
  case trigger =>
    change execInjectedTrigger s = _
    rw [execInjectedTrigger, runs]
    exact congrArg _ rfl
  case period =>
    refine ⟨{ s with drive := s.drive.periodStart }, ?_, ?_, ?_, ?_, ?_, ?_, ?_⟩
    · change execPwmPeriodStart s = _
      rw [execPwmPeriodStart, runs]
    · simp only [Drive.periodStart, load_eq]
    · exact fun on => by simp only [Drive.periodStart, load_eq, if_pos on]
    · exact fun off => by simp only [Drive.periodStart, load_eq, if_neg off]
    · exact fun on => by simp only [Drive.periodStart, load_eq, if_pos on]
    · exact fun off => by simp only [Drive.periodStart, load_eq, if_neg off]
    · exact fun hold => by simp only [Drive.periodStart, hold]
  case expiry =>
    refine ⟨_, ?_, rfl, fun ns => rfl⟩
    change execSolenoidPullInExpiry s = _
    rw [execSolenoidPullInExpiry, stage, runs]
  case same => exact congrArg (fun d => { s with drive := d }) (command_self s.drive s.seq.solenoid)
  · simp only [Drive.lks, stage]
  · simp only [Drive.lks, stage]
  · simp [Drive.lks, stage, free]
  · have level : d.lks ns = decide (2 * |ns - 25000| < 20000) := by simp [Drive.lks, stage, driven]
    rw [level, decide_eq_true_eq, decide_eq_false_iff_not, inHold_iff]
    exact ⟨id, fun out => Nat.lt_asymm out⟩
  · simp [setSolenoid, Drive.command, off]
  · simp [setSolenoid, Drive.command, on, Drive.lks]

end Sys2Proof.Proofs

/-! INJECTED_COMPLETE (R122, R135 to R141): what an ON channel makes of a current, the loop step, the trip and what it
brings the other channel. -/

namespace Sys2Proof.Proofs
open Sys2Proof.Machine

/-! ### A channel's record after a current -/

/-- The current of a bridge trips its channel: ON, above the trip current, for the third time in succession (R140). -/
def tripsAt (s : State) (b : Bridge) : Prop :=
  (s.drive.channel b).state = .on ∧ s.tuning.tripCurrent < (s.conv.current b).natAbs ∧ 2 ≤ (s.drive.channel b).overRun

/-- A channel's record after the loop step of a current that does not trip it (R137 to R140). -/
def steppedBy (c : Channel) (u : Tuning) (i : Int) : Channel :=
  ({ c with overRun := if u.tripCurrent < i.natAbs then c.overRun + 1 else 0 } : Channel).loopStep u i

theorem take_of_quiet {c : Channel} {u : Tuning} {i : Int} (quiet : i.natAbs ≤ u.tripCurrent ∨ c.overRun < 2) :
    c.take u i = (steppedBy c u i, false) := by
  unfold Channel.take steppedBy
  by_cases exceeds : u.tripCurrent < i.natAbs
  · rw [if_pos exceeds, if_pos exceeds, if_pos (by omega)]
  · rw [if_neg exceeds, if_neg exceeds]

theorem take_of_trip {c : Channel} {u : Tuning} {i : Int} (exceeds : u.tripCurrent < i.natAbs) (third : 2 ≤ c.overRun) :
    c.take u i = (c.trip, true) := by
  rw [Channel.take, if_pos exceeds, if_neg (by omega)]

theorem channelTake_of_not_on {b : Bridge} {s : State} (notOn : (s.drive.channel b).state ≠ .on) :
    channelTake b s = s := by
  unfold channelTake
  dsimp only
  cases stands : (s.drive.channel b).state with
  | on => exact absurd stands notOn
  | off | tripped => rfl

theorem channelTake_of_quiet {b : Bridge} {s : State} (on : (s.drive.channel b).state = .on) (quiet : ¬ tripsAt s b) :
    channelTake b s =
      { s with drive := s.drive.setChannel b (steppedBy (s.drive.channel b) s.tuning (s.conv.current b)) } := by
  have few : (s.conv.current b).natAbs ≤ s.tuning.tripCurrent ∨ (s.drive.channel b).overRun < 2 := by
    by_contra neither
    obtain ⟨exceeds, third⟩ := not_or.1 neither
    exact quiet ⟨on, Nat.lt_of_not_le exceeds, Nat.le_of_not_lt third⟩
  unfold channelTake
  dsimp only
  rw [on, take_of_quiet few]
  rfl

theorem channelTake_of_trip {b : Bridge} {s : State} (trips : tripsAt s b) :
    channelTake b s =
      raise b.overcurrent 0 { s with drive := s.drive.setChannel b (s.drive.channel b).trip } := by
  obtain ⟨on, exceeds, third⟩ := trips
  unfold channelTake
  dsimp only
  rw [on, take_of_trip exceeds third]
  rfl

theorem channel_setChannel_same (d : Drive) (b : Bridge) (c : Channel) : (d.setChannel b c).channel b = c := by
  cases b <;> rfl

theorem channel_setChannel_other (d : Drive) (b : Bridge) (c : Channel) :
    (d.setChannel b c).channel b.other = d.channel b.other := by
  cases b <;> rfl

theorem setChannel_channel (d : Drive) (b : Bridge) : d.setChannel b (d.channel b) = d := by
  cases b <;> rfl

/-! ### The loop step and the quiet event -/

theorem sameSign_iff (a b : Int) : sameSign a b = true ↔ (0 < a ∧ 0 < b) ∨ (a < 0 ∧ b < 0) := by
  simp [sameSign]

/-- The integrator is held where the test duty lies beyond ±950 on the side of the error (R138 step 4). -/
theorem nextIntegrator_held_iff (test e : Int) :
    950 < test.natAbs ∧ sameSign test e = true ↔ (0 < e ∧ 950 < test) ∨ (e < 0 ∧ test < -950) := by
  rw [sameSign_iff]
  omega

/-- The record of a channel that does not trip (R137 to R140). -/
def calmRecord (s : State) (b : Bridge) : Channel :=
  if (s.drive.channel b).state = .on then steppedBy (s.drive.channel b) s.tuning (s.conv.current b)
  else s.drive.channel b

theorem channelTake_calm {b : Bridge} {s : State} (quiet : ¬ tripsAt s b) :
    channelTake b s = { s with drive := s.drive.setChannel b (calmRecord s b) } := by
  unfold calmRecord
  by_cases on : (s.drive.channel b).state = .on
  · rw [channelTake_of_quiet on quiet, if_pos on]
  · rw [channelTake_of_not_on on, if_neg on, setChannel_channel]

/-- The state on which the channels take their currents at INJECTED_COMPLETE (R122). -/
def measuredAt (rawTilt rawSteer : BitVec 12) (s : State) : State :=
  { s with conv := { s.conv with tiltCurrent := currentOf rawTilt, steerCurrent := currentOf rawSteer
                                 injected := none, normal := some 10 } }

theorem exec_injectedComplete {s : State} {n : Nat} (busy : s.conv.injected = some n) (rawTilt rawSteer : BitVec 12)
    (first : Bridge) : exec (.injectedComplete rawTilt rawSteer first) s =
      .next (channelTake first.other (channelTake first (measuredAt rawTilt rawSteer s))) := by
  change execInjectedComplete rawTilt rawSteer first s = _
  rw [execInjectedComplete, busy]
  exact congrArg _ rfl

/-- Settles O47: with no trip the two channels take their currents apart, in either order. -/
theorem injectedComplete : Obligations.InjectedComplete := by
  refine ⟨fun rawTilt rawSteer first s n busy => ?_, fun c u i => ?_⟩
  · intro iTilt iSteer u quiet after
    refine ⟨_, exec_injectedComplete busy rawTilt rawSteer first, ?_, fun tilt steer => ?_, ?_⟩
    · simp only [channelTake_keeps]
      rfl
    · let s₀ := measuredAt rawTilt rawSteer s
      have calm (c : Channel) (i : Int) (q : quiet c i) :
          ¬ (c.state = .on ∧ u.tripCurrent < i.natAbs ∧ 2 ≤ c.overRun) := by
        rintro ⟨on, exceeds, third⟩
        rcases q with off | within | few
        · exact off on
        · omega
        · omega
      have tiltCalm : ¬ tripsAt s₀ .tilt := calm _ _ tilt
      have steerCalm : ¬ tripsAt s₀ .steer := calm _ _ steer
      have apart : channelTake first.other (channelTake first s₀) =
          { s₀ with drive := { s₀.drive with tilt := calmRecord s₀ .tilt, steer := calmRecord s₀ .steer } } := by
        cases first with
        | tilt =>
          rw [channelTake_calm tiltCalm]
          exact channelTake_calm (b := .steer)
            (s := { s₀ with drive := s₀.drive.setChannel .tilt (calmRecord s₀ .tilt) }) steerCalm
        | steer =>
          rw [channelTake_calm steerCalm]
          exact channelTake_calm (b := .tilt)
            (s := { s₀ with drive := s₀.drive.setChannel .steer (calmRecord s₀ .steer) }) tiltCalm
      rw [show channelTake first.other (channelTake first (measuredAt rawTilt rawSteer s)) = _ from apart]
      rfl
    · simp only [channelTake_keeps]
      exact ⟨rfl, rfl, rfl, rfl, rfl, rfl⟩
  · intro e test held d
    have integrator : d.integrator = nextIntegrator u.kpi u.ki e c.integrator := rfl
    refine ⟨fun h => ?_, fun h => ?_, rfl, clampSym_natAbs _ _, fun within => ?_, rfl⟩
    · exact if_pos ((nextIntegrator_held_iff _ _).2 h)
    · exact if_neg fun both => h ((nextIntegrator_held_iff _ _).1 both)
    · rw [integrator]
      exact nextIntegrator_natAbs _ _ _ within

/-! ### The trip -/

/-- The modes in which a SAFE request moves no channel (R22). -/
def Free (s : State) : Prop := s.seq.mode = .off ∨ s.seq.mode = .safe

/-- A raise that enters no SAFE leaves the drive and the sequencer. -/
theorem raise_rests {k : FaultKind} {s : State} (rests : Free s ∨ (s.faults.get k).policyReaction ≠ .safe) (n : Nat) :
    (raise k n s).drive = s.drive ∧ (raise k n s).seq = s.seq := by
  by_cases quiet : s.seq.mode = .off ∨ (s.faults.get k).policyReaction ≠ .safe
  · refine ⟨?_, raise_seq_quiet quiet n⟩
    rw [raise_quiet quiet]
    simp only [assertLine_keeps, recorded]
  · obtain ⟨off, policy⟩ := not_or.1 quiet
    have safe : s.seq.mode = .safe := (rests.resolve_right policy).resolve_left off
    obtain ⟨-, stays, -⟩ := raiseEntersSafe k n s off (not_not.1 policy)
    obtain ⟨seq, drive, -⟩ := stays safe
    exact ⟨drive, seq⟩

/-- A raise that enters SAFE: the tilt channel is wanted and the steer channel is not (R133, R135). -/
theorem raise_enters {k : FaultKind} {s : State} (moving : ¬ Free s) (policy : (s.faults.get k).policyReaction = .safe)
    (n : Nat) :
    (raise k n s).seq.mode = .safe ∧
    (s.drive.tilt.state ≠ .off → (raise k n s).drive.tilt = { s.drive.tilt with wanted := true }) ∧
    (s.drive.steer.state = .on →
      (raise k n s).drive.steer.state = .off ∧ (raise k n s).drive.steer.duty = 0) ∧
    (s.drive.steer.state ≠ .on → (raise k n s).drive.steer.state ≠ .on) ∧
    (s.drive.steer.state = .tripped → ((raise k n s).faults.get .steerOvercurrent).state ≠ .clear →
      (raise k n s).drive.steer = { s.drive.steer with wanted := false }) := by
  obtain ⟨off, safe⟩ := not_or.1 moving
  obtain ⟨enters, -⟩ := raiseEntersSafe k n s off policy
  obtain ⟨seq, drive, -⟩ := enters safe
  have steer := congrArg Drive.steer drive
  dsimp only at steer
  rw [steer]
  refine ⟨by rw [seq], fun stands => (congrArg Drive.tilt drive).trans (if_neg stands), fun on => ?_, fun notOn => ?_,
    fun tripped latched => ?_⟩
  · rw [if_pos (.inl on)]
    exact ⟨rfl, rfl⟩
  · split
    · exact nofun
    · exact notOn
  · exact if_neg (not_or.2 ⟨by rw [tripped]; nofun, fun both => latched both.2⟩)

/-- Each channel's over-current kind is momentary: a raise leaves it LATCHED with its count risen (R141, R148). -/
theorem raise_overcurrent (b : Bridge) (s : State) :
    ((raise b.overcurrent 0 s).faults.get b.overcurrent).state = .latched ∧
    ((raise b.overcurrent 0 s).faults.get b.overcurrent).count = bump 255 (s.faults.get b.overcurrent).count := by
  rw [raise_get_same, raised_startAck]
  cases b <;> exact ⟨rfl, rfl⟩

theorem overcurrent_other_ne (b : Bridge) : b.overcurrent ≠ b.other.overcurrent := by cases b <;> decide

/-- A channel's event leaves the other kind's record. -/
theorem channelTake_get_ne (b : Bridge) (s : State) {j : FaultKind} (other : j ≠ b.overcurrent) :
    (channelTake b s).faults.get j = s.faults.get j := by
  by_cases trips : tripsAt s b
  · rw [channelTake_of_trip trips, raise_get_ne _ _ _ other]
  · rw [channelTake_calm trips]

/-- A channel that trips, and its kind (R140, R141). -/
def TrippedFrom (s t : State) (b : Bridge) : Prop :=
  t.drive.channel b =
    { s.drive.channel b with state := .tripped, wanted := (t.drive.channel b).wanted, duty := 0
                             applied := 0, overRun := 0 } ∧
  (t.faults.get b.overcurrent).state = .latched ∧
  (t.faults.get b.overcurrent).count = bump 255 (s.faults.get b.overcurrent).count

theorem channelTake_trips {b : Bridge} {s : State} (trips : tripsAt s b) : TrippedFrom s (channelTake b s) b := by
  rw [channelTake_of_trip trips]
  obtain ⟨latched, count⟩ := raise_overcurrent b { s with drive := s.drive.setChannel b (s.drive.channel b).trip }
  refine ⟨?_, latched, count⟩
  by_cases rests : Free s ∨ (s.faults.get b.overcurrent).policyReaction ≠ .safe
  · obtain ⟨drive, -⟩ := raise_rests (k := b.overcurrent)
      (s := { s with drive := s.drive.setChannel b (s.drive.channel b).trip }) rests 0
    rw [drive, channel_setChannel_same]
    rfl
  · obtain ⟨moving, policy⟩ := not_or.1 rests
    obtain ⟨-, tilt, -, -, steer⟩ := raise_enters (k := b.overcurrent)
      (s := { s with drive := s.drive.setChannel b (s.drive.channel b).trip }) moving (not_not.1 policy) 0
    cases b with
    | tilt =>
      have record := tilt nofun
      exact record.trans (by rw [show Drive.channel _ .tilt = _ from record]; rfl)
    | steer =>
      have record := steer rfl (fun clear => nomatch latched.symm.trans clear)
      exact record.trans (by rw [show Drive.channel _ .steer = _ from record]; rfl)

/-! ### One event and the other channel -/

section
variable {s : State}

theorem channelTake_conv (b : Bridge) (s : State) : (channelTake b s).conv = s.conv := by simp only [channelTake_keeps]

theorem channelTake_tuning (b : Bridge) (s : State) : (channelTake b s).tuning = s.tuning := by
  simp only [State.tuning, channelTake_keeps]

/-- A channel that does not trip, or trips in OFF or SAFE, moves neither the other channel nor the mode. -/
theorem channelTake_leaves {b : Bridge} (calm : ¬ tripsAt s b ∨ Free s) :
    (channelTake b s).drive.channel b.other = s.drive.channel b.other ∧ (channelTake b s).seq = s.seq := by
  by_cases trips : tripsAt s b
  · obtain ⟨drive, seq⟩ := raise_rests (k := b.overcurrent)
      (s := { s with drive := s.drive.setChannel b (s.drive.channel b).trip })
      (.inl (calm.resolve_left (not_not.2 trips))) 0
    rw [channelTake_of_trip trips, drive, seq]
    exact ⟨channel_setChannel_other _ _ _, rfl⟩
  · rw [channelTake_calm trips]
    exact ⟨channel_setChannel_other _ _ _, rfl⟩

/-- The steer channel's event leaves a tilt channel that is not OFF but for its wanted state. -/
theorem steerTake_tilt (stands : s.drive.tilt.state ≠ .off) :
    ∃ w, (channelTake .steer s).drive.tilt = { s.drive.tilt with wanted := w } := by
  by_cases calm : ¬ tripsAt s .steer ∨ Free s
  · exact ⟨s.drive.tilt.wanted, (channelTake_leaves calm).1⟩
  obtain ⟨trips, moving⟩ := not_or.1 calm
  rw [channelTake_of_trip (not_not.1 trips)]
  by_cases policy : (s.faults.get Bridge.steer.overcurrent).policyReaction = .safe
  · obtain ⟨-, tilt, -⟩ := raise_enters (k := Bridge.steer.overcurrent)
      (s := { s with drive := s.drive.setChannel .steer (s.drive.channel .steer).trip }) moving policy 0
    exact ⟨true, tilt stands⟩
  · obtain ⟨drive, -⟩ := raise_rests (k := Bridge.steer.overcurrent)
      (s := { s with drive := s.drive.setChannel .steer (s.drive.channel .steer).trip }) (.inr policy) 0
    rw [drive]
    exact ⟨s.drive.tilt.wanted, rfl⟩

/-- A tilt trip outside OFF and SAFE enters SAFE, and the steer channel is no longer ON (R135). -/
theorem tiltTake_steer (policy : (s.faults.get .tiltOvercurrent).policyReaction = .safe) (trips : tripsAt s .tilt)
    (moving : ¬ Free s) :
    (s.drive.steer.state = .on →
      (channelTake .tilt s).drive.steer.state = .off ∧ (channelTake .tilt s).drive.steer.duty = 0) ∧
    (s.drive.steer.state ≠ .on → (channelTake .tilt s).drive.steer.state ≠ .on) ∧
    (s.drive.steer.state = .tripped → (s.faults.get .steerOvercurrent).state ≠ .clear →
      (channelTake .tilt s).drive.steer = { s.drive.steer with wanted := false }) := by
  rw [channelTake_of_trip trips]
  obtain ⟨-, -, on, notOn, tripped⟩ := raise_enters (k := Bridge.tilt.overcurrent)
    (s := { s with drive := s.drive.setChannel .tilt (s.drive.channel .tilt).trip }) moving policy 0
  refine ⟨on, notOn, fun stands stays => tripped stands ?_⟩
  rw [raise_get_ne (j := .steerOvercurrent) Bridge.tilt.overcurrent _ _ (by decide)]
  exact stays

theorem tiltTake_mode (policy : (s.faults.get .tiltOvercurrent).policyReaction = .safe) (trips : tripsAt s .tilt)
    (off : s.seq.mode ≠ .off) : (channelTake .tilt s).seq.mode = .safe := by
  rw [channelTake_of_trip trips]
  exact raise_mode_of_policy (k := Bridge.tilt.overcurrent)
    (s := { s with drive := s.drive.setChannel .tilt (s.drive.channel .tilt).trip }) off policy 0

theorem channelTake_mode (b : Bridge) (s : State) :
    (channelTake b s).seq.mode = s.seq.mode ∨ (channelTake b s).seq.mode = .safe := by
  by_cases trips : tripsAt s b
  · rw [channelTake_of_trip trips]
    rcases raise_seq b.overcurrent 0 { s with drive := s.drive.setChannel b (s.drive.channel b).trip } with same | enters
    · exact .inl (congrArg Sequencer.mode same)
    · exact .inr (congrArg Sequencer.mode enters)
  · exact .inl (congrArg Sequencer.mode (channelTake_leaves (.inl trips)).2)

/-- A tilt channel that has tripped stays so when the steer channel's event follows. -/
theorem tilt_stays_tripped {u : State} (tripped : TrippedFrom s u .tilt) : TrippedFrom s (channelTake .steer u) .tilt := by
  obtain ⟨record, latched, count⟩ := tripped
  have stands : u.drive.tilt.state ≠ .off := by
    rw [show u.drive.tilt = _ from record]
    nofun
  obtain ⟨w, tilt⟩ := steerTake_tilt stands
  rw [TrippedFrom, channelTake_get_ne .steer u (overcurrent_other_ne .tilt)]
  refine ⟨?_, latched, count⟩
  rw [show (channelTake .steer u).drive.channel .tilt = _ from tilt, show u.drive.tilt = _ from record]

/-- A steer channel that has tripped stays so when the tilt channel's event follows. -/
theorem steer_stays_tripped {u : State} (policy : (u.faults.get .tiltOvercurrent).policyReaction = .safe)
    (tripped : TrippedFrom s u .steer) : TrippedFrom s (channelTake .tilt u) .steer := by
  obtain ⟨record, latched, count⟩ := tripped
  have stands : u.drive.steer.state = .tripped := by rw [show u.drive.steer = _ from record]
  rw [TrippedFrom, channelTake_get_ne .tilt u (overcurrent_other_ne .steer)]
  refine ⟨?_, latched, count⟩
  by_cases calm : ¬ tripsAt u .tilt ∨ Free u
  · rw [show (channelTake .tilt u).drive.channel .steer = _ from (channelTake_leaves calm).1]
    exact record
  · obtain ⟨trips, moving⟩ := not_or.1 calm
    obtain ⟨-, -, steer⟩ := tiltTake_steer policy (not_not.1 trips) moving
    have unwanted := steer stands (fun clear => nomatch latched.symm.trans clear)
    rw [show (channelTake .tilt u).drive.channel .steer = _ from unwanted, show u.drive.steer = _ from record]

theorem tripsAt_after {b b' : Bridge} (same : (channelTake b' s).drive.channel b = s.drive.channel b) :
    tripsAt (channelTake b' s) b ↔ tripsAt s b := by
  unfold tripsAt
  rw [same, channelTake_conv, channelTake_tuning]

/-- After an event that leaves it alone, the other channel trips or steps as it would have before. -/
theorem other_after (b : Bridge) (calm : ¬ tripsAt s b ∨ Free s) :
    (tripsAt s b.other → TrippedFrom s (channelTake b.other (channelTake b s)) b.other) ∧
    (¬ tripsAt s b.other → (s.drive.channel b.other).state = .on →
      (channelTake b.other (channelTake b s)).drive.channel b.other =
        steppedBy (s.drive.channel b.other) s.tuning (s.conv.current b.other)) := by
  obtain ⟨same, -⟩ := channelTake_leaves calm
  refine ⟨fun trips => ?_, fun quiet on => ?_⟩
  · obtain ⟨record, latched, count⟩ := channelTake_trips ((tripsAt_after same).2 trips)
    rw [same] at record
    rw [channelTake_get_ne b s (overcurrent_other_ne b).symm] at count
    exact ⟨record, latched, count⟩
  · rw [channelTake_of_quiet (by rw [same]; exact on) fun trips => quiet ((tripsAt_after same).1 trips),
      channelTake_conv, channelTake_tuning, same]
    exact channel_setChannel_same _ _ _

/-- What the steer channel's event leaves for a tilt channel that is ON: to trip, or to step. -/
theorem tilt_after_steer (on : s.drive.tilt.state = .on) :
    (tripsAt (channelTake .steer s) .tilt ↔ tripsAt s .tilt) ∧
    (tripsAt s .tilt → TrippedFrom s (channelTake .tilt (channelTake .steer s)) .tilt) ∧
    (¬ tripsAt s .tilt → ∃ w, (channelTake .tilt (channelTake .steer s)).drive.tilt =
      { steppedBy s.drive.tilt s.tuning (s.conv.current .tilt) with wanted := w }) := by
  obtain ⟨w, tilt⟩ := steerTake_tilt (s := s) (by rw [on]; nofun)
  have same : tripsAt (channelTake .steer s) .tilt ↔ tripsAt s .tilt := by
    unfold tripsAt
    rw [show (channelTake .steer s).drive.channel .tilt = _ from tilt, channelTake_conv, channelTake_tuning]
    rfl
  refine ⟨same, fun trips => ?_, fun calm => ?_⟩
  · obtain ⟨record, latched, count⟩ := channelTake_trips (same.2 trips)
    rw [show (channelTake .steer s).drive.channel .tilt = _ from tilt] at record
    rw [channelTake_get_ne .steer s (overcurrent_other_ne .tilt)] at count
    exact ⟨record, latched, count⟩
  · have on' : ((channelTake .steer s).drive.channel .tilt).state = .on := by
      rw [show (channelTake .steer s).drive.channel .tilt = _ from tilt]
      exact on
    rw [channelTake_of_quiet on' fun trips => calm (same.1 trips), channelTake_conv, channelTake_tuning,
      show (channelTake .steer s).drive.channel .tilt = _ from tilt]
    exact ⟨w, rfl⟩

end

/-- What both channels' events come to, from `s` to `t` (R135, R140, R141). -/
structure TripOutcome (first : Bridge) (s t : State) : Prop where
  tilt : tripsAt s .tilt → TrippedFrom s t .tilt ∧ (s.seq.mode ≠ .off → t.seq.mode = .safe)
  steerQuiet : tripsAt s .tilt → ¬ Free s →
    t.drive.steer.state ≠ .on ∧ t.drive.steer.duty = 0 ∨ s.drive.steer.state ≠ .on
  steer : tripsAt s .steer → (tripsAt s .tilt → first = .steer ∨ Free s) → TrippedFrom s t .steer
  steerSpared : tripsAt s .steer → tripsAt s .tilt → first = .tilt → ¬ Free s →
    t.drive.steer.state = .off ∧ t.faults.get .steerOvercurrent = s.faults.get .steerOvercurrent
  tiltSteps : ¬ tripsAt s .tilt → s.drive.tilt.state = .on →
    t.drive.tilt = { steppedBy s.drive.tilt s.tuning (s.conv.current .tilt) with wanted := t.drive.tilt.wanted }
  steerSteps : ¬ tripsAt s .steer → (tripsAt s .tilt → Free s) → s.drive.steer.state = .on →
    t.drive.steer = steppedBy s.drive.steer s.tuning (s.conv.current .steer)
  calm : ¬ tripsAt s .tilt → ¬ tripsAt s .steer → t.faults = s.faults ∧ t.seq = s.seq ∧ t.port = s.port

/-- Two events without a trip leave the fault table, the sequencer and the port. -/
theorem both_calm {b : Bridge} {s : State} (calm : ¬ tripsAt s b) (other : ¬ tripsAt s b.other) :
    let t := channelTake b.other (channelTake b s)
    t.faults = s.faults ∧ t.seq = s.seq ∧ t.port = s.port := by
  obtain ⟨second, -⟩ := channelTake_leaves (.inl calm)
  intro t
  have whole : t = _ := channelTake_calm fun trips => other ((tripsAt_after second).1 trips)
  rw [whole, channelTake_calm calm]
  exact ⟨rfl, rfl, rfl⟩

/-- After a tilt trip that enters SAFE the steer channel's event finds it OFF (R135). -/
theorem steer_spared {s : State} (policy : (s.faults.get .tiltOvercurrent).policyReaction = .safe)
    (tilt : tripsAt s .tilt) (moving : ¬ Free s) (on : s.drive.steer.state = .on) :
    let t := channelTake .steer (channelTake .tilt s)
    t.drive.steer.state = .off ∧ t.drive.steer.duty = 0 ∧
      t.faults.get .steerOvercurrent = s.faults.get .steerOvercurrent := by
  obtain ⟨off, zero⟩ := (tiltTake_steer policy tilt moving).1 on
  have notOn : ((channelTake .tilt s).drive.channel .steer).state ≠ .on := fun still => nomatch off.symm.trans still
  intro t
  have rests : t = channelTake .tilt s := channelTake_of_not_on notOn
  rw [rests]
  exact ⟨off, zero, channelTake_get_ne .tilt s (by decide)⟩

theorem tilt_then_steer {s : State} (policy : (s.faults.get .tiltOvercurrent).policyReaction = .safe) :
    TripOutcome .tilt s (channelTake .steer (channelTake .tilt s)) where
  tilt tilt := by
    refine ⟨tilt_stays_tripped (channelTake_trips tilt), fun off => ?_⟩
    rcases channelTake_mode .steer (channelTake .tilt s) with same | safe
    · exact same.trans (tiltTake_mode policy tilt off)
    · exact safe
  steerQuiet tilt moving := by
    by_cases on : s.drive.steer.state = .on
    · obtain ⟨off, zero, -⟩ := steer_spared policy tilt moving on
      exact .inl ⟨fun still => (nomatch off.symm.trans still), zero⟩
    · exact .inr on
  steer steer orders :=
    (other_after .tilt (not_or_of_imp fun tilt => (orders tilt).resolve_left nofun)).1 steer
  steerSpared steer tilt _ moving := by
    obtain ⟨off, -, record⟩ := steer_spared policy tilt moving steer.1
    exact ⟨off, record⟩
  tiltSteps quiet on := by
    have step := channelTake_of_quiet (b := .tilt) (s := s) on quiet
    have stands : (channelTake .tilt s).drive.tilt.state ≠ .off := by
      rw [step]
      exact fun off => nomatch on.symm.trans off
    obtain ⟨w, record⟩ := steerTake_tilt stands
    rw [record, step]
    rfl
  steerSteps quiet orders on := (other_after .tilt (not_or_of_imp orders)).2 quiet on
  calm tilt steer := both_calm (b := .tilt) tilt steer

theorem steer_then_tilt {s : State} (policy : (s.faults.get .tiltOvercurrent).policyReaction = .safe) :
    TripOutcome .steer s (channelTake .tilt (channelTake .steer s)) := by
  have policyAfter : ((channelTake .steer s).faults.get .tiltOvercurrent).policyReaction = .safe := by
    rw [channelTake_get_ne .steer s (by decide)]
    exact policy
  have stays (steer : tripsAt s .steer) := steer_stays_tripped policyAfter (channelTake_trips steer)
  refine ⟨fun tilt => ⟨(tilt_after_steer tilt.1).2.1 tilt, fun off => ?tiltMode⟩, fun tilt moving => ?steerQuiet,
    fun steer _ => stays steer, fun _ _ order => (nomatch order), fun quiet on => ?tiltSteps,
    fun quiet orders on => ?steerSteps, fun tilt steer => both_calm (b := .steer) steer tilt⟩
  case tiltMode =>
    refine tiltTake_mode policyAfter ((tilt_after_steer tilt.1).1.2 tilt) ?_
    rcases channelTake_mode .steer s with same | safe
    · rwa [same]
    · rw [safe]
      nofun
  case steerQuiet =>
    by_cases on : s.drive.steer.state = .on
    · refine .inl ?_
      by_cases steer : tripsAt s .steer
      · obtain ⟨record, -⟩ := stays steer
        exact ⟨fun still => (nomatch (congrArg Channel.state record).symm.trans still), congrArg Channel.duty record⟩
      · have moving' : ¬ Free (channelTake .steer s) := by
          rw [Free, (channelTake_leaves (.inl steer)).2]
          exact moving
        have on' : (channelTake .steer s).drive.steer.state = .on := by
          rw [channelTake_of_quiet (b := .steer) (s := s) on steer]
          exact on
        obtain ⟨off, zero⟩ := (tiltTake_steer policyAfter ((tilt_after_steer tilt.1).1.2 tilt) moving').1 on'
        exact ⟨fun still => (nomatch off.symm.trans still), zero⟩
    · exact .inr on
  case tiltSteps =>
    obtain ⟨w, record⟩ := (tilt_after_steer on).2.2 quiet
    rw [record]
  case steerSteps =>
    obtain ⟨same, seq⟩ := channelTake_leaves (b := .steer) (s := s) (.inl quiet)
    have calm : ¬ tripsAt (channelTake .steer s) .tilt ∨ Free (channelTake .steer s) := by
      rw [Free, seq, show tripsAt (channelTake .steer s) .tilt ↔ _ from tripsAt_after same]
      exact not_or_of_imp orders
    refine (channelTake_leaves calm).1.trans ?_
    rw [channelTake_of_quiet (b := .steer) (s := s) on quiet]
    rfl

/-- Settles O48: the two events one after the other, in either order. -/
theorem overCurrentTrip : Obligations.OverCurrentTrip := by
  intro rawTilt rawSteer first s n busy faults u i exceeds trips stepped free
  have policy : ((measuredAt rawTilt rawSteer s).faults.get .tiltOvercurrent).policyReaction = .safe :=
    eq_safe_of_code_le (faults.policy .tiltOvercurrent)
  refine ⟨_, exec_injectedComplete busy rawTilt rawSteer first, ?_⟩
  have outcome : TripOutcome first (measuredAt rawTilt rawSteer s)
      (channelTake first.other (channelTake first (measuredAt rawTilt rawSteer s))) := by
    cases first with
    | tilt => exact tilt_then_steer policy
    | steer => exact steer_then_tilt policy
  obtain ⟨tilt, steerQuiet, steer, steerSpared, tiltSteps, steerSteps, calm⟩ := outcome
  exact ⟨tilt, steerQuiet, steer, steerSpared, tiltSteps, steerSteps, calm⟩

end Sys2Proof.Proofs

/-! The step, the reset values, the end of a reset, the port's timers and the host's accesses (R161 to R168, R179, R180,
R195). -/

namespace Sys2Proof.Proofs
open Sys2Proof.Machine

/-- Settles O1. -/
theorem stepRunsFrontCommand : Obligations.StepRunsFrontCommand := fun _ _ _ => rfl

/-! ### The reset values -/

theorem reset_lockSafe : LockSafe State.reset where
  stage := iff_of_true rfl rfl
  dropped _ := rfl
  pulled := nofun
  latch := nofun
  seated := nofun

theorem reset_bridgesSafe : BridgesSafe State.reset where
  tilt := cleared_channelSafe
  steer := cleared_channelSafe
  tiltWanted := rfl
  steerWanted := rfl
  tiltTripped := nofun
  steerTripped := nofun

/-- Settles O3: the blocks value by value, and the state after reset by the lemmas about what a reset clears. -/
theorem resetValuesAndSafety : Obligations.ResetValuesAndSafety := by
  unfold Obligations.ResetValuesAndSafety
  refine ⟨fun _ _ _ => rfl, rfl, rfl, rfl, rfl, rfl, rfl, rfl, fun kept => ⟨rfl, rfl, fun k => ?_⟩, rfl,
    fun _ _ _ _ => rfl, rfl, rfl, reset_lockSafe, cleared_faultsSafe _, reset_bridgesSafe,
    ⟨cleared_ringSafe _, cleared_ringSafe _⟩, ⟨rfl, nofun, nofun⟩⟩
  rw [cleared_get]
  rfl

/-! ### The end of a reset, and accesses before it -/

/-- An access during a reset is turned away (R164). -/
theorem access_in_reset {s : State} (resetting : s.phase ≠ .running) (addr : Word) (op : AccessOp) :
    access addr op s = accessInReset op s ∧ beginAccess addr op s = accessInReset op s := by
  unfold access beginAccess
  cases phase : s.phase with
  | running => exact absurd phase resetting
  | powerOn | pin | soft => exact ⟨rfl, rfl⟩

/-- Settles O50. -/
theorem resetEndsAndAccessesBefore : Obligations.ResetEndsAndAccessesBefore := by
  intro s addr w contact reads
  refine ⟨fun running => ?_, fun resetting => ?_, fun resetting => ?_⟩
  · change execResetEnd s = _
    rw [execResetEnd, running]
  · have ends : execResetEnd s = .next (endReset s) := by
      unfold execResetEnd
      cases phase : s.phase with
      | running => exact absurd phase resetting
      | powerOn | pin | soft => rfl
    exact ends.trans rfl
  · have whole (a : Word) (op : AccessOp) :
        (.next (access a op s) : Host.Outcome State Fault Refusal) = .next (accessInReset op s) :=
      congrArg _ (access_in_reset resetting a op).1
    have begun (op : AccessOp) :
        (.next (beginAccess addr op s) : Host.Outcome State Fault Refusal) = .next (accessInReset op s) :=
      congrArg _ (access_in_reset resetting addr op).2
    refine ⟨whole _ .read, whole _ .read, begun .read, whole _ .read, whole _ (.write w), begun (.write w),
      fun none => ?_, whole _ (.write w), whole _ (.write w), whole _ (.write w), whole _ (.write w),
      whole _ (.write w)⟩
    change Host.Outcome.next (completeAccess s) = _
    rw [completeAccess, none]

/-! ### The port's timers -/

theorem degrades_iff (r : FaultRecord) : r.degrades = true ↔ r.state ≠ .clear ∧ r.effective = .degrade := by
  simp [FaultRecord.degrades]

theorem degradeInForce_iff (m : FaultMonitor) :
    m.degradeInForce = true ↔ ∃ k, (m.get k).state ≠ .clear ∧ (m.get k).effective = .degrade := by
  simp only [FaultMonitor.degradeInForce, table_any, degrades_iff]

/-- FLTN with the minimum-time timer stopped (R156). -/
theorem fltnActive_of_stopped {m : FaultMonitor} (stopped : m.minTimer = none) :
    m.fltnActive = true ↔
      ∃ k, (m.get k).state ≠ .clear ∧ ((m.get k).effective = .degrade ∨ (m.get k).effective = .safe) := by
  rw [FaultMonitor.fltnActive, stopped, Option.isSome_none, Bool.or_false, Bool.or_eq_true, degradeInForce_iff,
    safeClassPresent_iff, ← exists_or]
  simp only [and_or_left]

/-- Settles O53. -/
theorem timerExpiries : Obligations.TimerExpiries := by
  refine ⟨fun s n => ?_, fun s => ⟨?_, ?_⟩⟩
  · intro p
    have expires (runs : p.timer = some n) (closed : p.window = .closed) :
        exec .exchangeTimerExpiry s = .next (setPort
          (if p.holdArmed then
            { p with timer := some 2000, holdArmed := false, window := .deferred, deferral := some 100 }
          else if p.inProgress.isSome then { p with timer := some 2000, opensAtCompletion := true }
          else ({ p with timer := some 2000 } : Port).openWindow) s) := by
      change execExchangeTimerExpiry s = _
      rw [execExchangeTimerExpiry, runs, Port.timerExpiry, closed]
    have limit (runs : p.deferral = some n) :
        exec .deferralLimitExpiry s = .next (
          let u := setCause .holdExpired (setPort { p with deferral := none } s)
          if p.inProgress.isSome then u else setPort u.port.openWindow u) := by
      change execDeferralLimitExpiry s = _
      rw [execDeferralLimitExpiry, runs]
      rfl
    refine ⟨fun runs closed armed => ?_, fun runs closed free busy => ?_, fun runs closed free idle => ?_,
      fun runs idle => ?_, fun runs busy => ?_⟩
    · rw [expires runs closed, if_pos armed]
      rfl
    · rw [expires runs closed, free, if_neg nofun, if_pos (Option.isSome_iff_ne_none.2 busy)]
      rfl
    · rw [expires runs closed, free, idle]
      rfl
    · rw [limit runs, idle]
      rfl
    · rw [limit runs, if_pos (Option.isSome_iff_ne_none.2 busy)]
      rfl
  · rfl
  · exact ⟨_, rfl, rfl, fltnActive_of_stopped (m := { s.faults with minTimer := none }) rfl⟩

/-! ### Staging -/

/-- A full queue drops the report and counts it (R174). -/
theorem offerReport_eq (room : Nat) (cycle : Word) (b : ReportBody) (r : Ring) :
    (r.queue.length < room → r.offerReport room cycle b =
      { r with offer := r.offer + 1, queue := r.queue ++ [{ aux := r.offer, cycle := cycle, body := b }] }) ∧
    (room ≤ r.queue.length → r.offerReport room cycle b =
      { r with offer := r.offer + 1, dropped := bump 65535 r.dropped }) :=
  ⟨fun free => if_pos free, fun full => if_neg (Nat.not_lt.2 full)⟩

/-- Settles O57. -/
theorem stagedReports : Obligations.StagedReports := by
  intro b s t e
  have toEvent (event : s.port.map.destination b = .event) :
      t = { s with port := { s.port with event := e.offerReport 16 s.law.cycle b } } := by
    simp only [t, stage, event]
    rfl
  have toTrace (trace : s.port.map.destination b = .trace) :
      t = { s with port := { s.port with trace := s.port.trace.offerReport 8 s.law.cycle b } } := by
    simp only [t, stage, trace]
    rfl
  refine ⟨fun discard => ?_, fun event free => ?_, fun event full => ?_, fun trace free => ?_, fun trace full => ?_⟩
  · simp only [t, stage, discard]
  · rw [toEvent event, (offerReport_eq _ _ _ _).1 free]
  · rw [toEvent event, (offerReport_eq _ _ _ _).2 full]
    rfl
  · rw [toTrace trace, (offerReport_eq _ _ _ _).1 free]
  · rw [toTrace trace, (offerReport_eq _ _ _ _).2 full]
    exact ⟨rfl, rfl, rfl, rfl⟩

end Sys2Proof.Proofs

/-! The host's accesses in a running part: the registers and the scratch (R163, R166, R167, R179, R180, R195), and the
guarded region by the window and the port mode (R165, R166, R168). -/

namespace Sys2Proof.Proofs
open Sys2Proof.Machine

/-! ### The place of an address -/

/-- A place that carries an address carries that of the word (R163). -/
theorem wordAddress_of_placeOf {addr : Word} {a : Nat} (place : placeOf addr = .guarded a ∨ placeOf addr = .scratch a) :
    a = wordAddress addr := by
  unfold placeOf at place
  dsimp only at place
  split_ifs at place <;> simp_all

theorem placeOf_of_inScratch {addr : Word} (scratch : inScratch addr = true) :
    placeOf addr = .scratch (wordAddress addr) := by
  unfold inScratch at scratch
  cases place : placeOf addr with
  | scratch a => rw [wordAddress_of_placeOf (.inr place)]
  | guarded a => rw [place] at scratch; exact nomatch scratch
  | xstat | xstatHold | xcause | xcauseEn | xctrl | unused => rw [place] at scratch; exact nomatch scratch

theorem placeOf_of_inGuarded {addr : Word} (guarded : inGuarded addr = true) :
    placeOf addr = .guarded (wordAddress addr) := by
  unfold inGuarded at guarded
  cases place : placeOf addr with
  | guarded a => rw [wordAddress_of_placeOf (.inl place)]
  | scratch a => rw [place] at guarded; exact nomatch guarded
  | xstat | xstatHold | xcause | xcauseEn | xctrl | unused => rw [place] at guarded; exact nomatch guarded

/-- With no access in progress there is none to complete. -/
theorem completeAccess_of_none {s : State} (idle : s.port.inProgress = none) : completeAccess s = s := by
  rw [completeAccess, idle]

/-- A whole access outside the guarded region is served at once (R163). -/
theorem access_elsewhere {s : State} (running : s.phase = .running) (idle : s.port.inProgress = none) {addr : Word}
    (op : AccessOp) (elsewhere : ∀ a, placeOf addr ≠ .guarded a) :
    access addr op s = serveElsewhere (placeOf addr) op s := by
  rw [access, running]
  dsimp only [accessRunning, settle]
  rw [completeAccess_of_none idle]
  cases place : placeOf addr with
  | guarded a => exact absurd place (elsewhere a)
  | scratch a => rfl
  | xstat | xstatHold | xcause | xcauseEn | xctrl | unused => rfl

/-! ### The status word -/

theorem getLsbD_ofNat_div {n i : Nat} (low : i < 16) :
    (BitVec.ofNat 16 n).getLsbD i = decide (n / 2 ^ i % 2 = 1) := by
  rw [BitVec.getLsbD_ofNat, decide_eq_true low, Bool.true_and, Nat.testBit_eq_decide_div_mod_eq]

theorem bit_eq_one_iff (b : Bool) : bit b = 1 ↔ b = true := by cases b <;> decide

theorem bit_lt_two (b : Bool) : bit b < 2 := by cases b <;> decide

/-- A bit of a status word whose place holds a flag. -/
theorem getLsbD_of_flag {n i : Nat} {b : Bool} (low : i < 16) (flag : n / 2 ^ i % 2 = bit b) :
    (BitVec.ofNat 16 n).getLsbD i = b := by
  rw [getLsbD_ofNat_div low, flag, Bool.decide_congr (bit_eq_one_iff b), Bool.decide_eq_true]

/-- A field of a status word. -/
theorem extract_ofNat (n start len : Nat) (small : n < 65536) :
    ((BitVec.ofNat 16 n).extractLsb' start len).toNat = n / 2 ^ start % 2 ^ len := by
  rw [BitVec.extractLsb'_toNat, Nat.shiftRight_eq_div_pow, BitVec.toNat_ofNat, Nat.mod_eq_of_lt small]

theorem mode_code_lt (m : Mode) : m.code < 8 := by cases m <;> decide

theorem lockDrive_code_lt (l : LockDrive) : l.code < 4 := by cases l <;> decide

/-- The bits of XSTAT (Table 11-13). -/
theorem xstat_bits (s : State) :
    s.xstat.getLsbD 0 = (s.port.window == .opened) ∧
    s.xstat.getLsbD 1 = s.port.holdArmed ∧
    (s.xstat.extractLsb' 2 3).toNat = s.seq.mode.code ∧
    (s.xstat.extractLsb' 5 2).toNat = s.seq.lockDrive.code ∧
    s.xstat.getLsbD 7 = s.faults.fltnActive ∧
    s.xstat.getLsbD 8 = s.port.irqLow ∧
    s.xstat.getLsbD 9 = s.tables.commitPending ∧
    s.xstat.toNat < 1024 := by
  have opened := bit_lt_two (s.port.window == .opened)
  have armed := bit_lt_two s.port.holdArmed
  have fltn := bit_lt_two s.faults.fltnActive
  have irq := bit_lt_two s.port.irqLow
  have pending := bit_lt_two s.tables.commitPending
  have mode := mode_code_lt s.seq.mode
  have lock := lockDrive_code_lt s.seq.lockDrive
  unfold State.xstat
  refine ⟨getLsbD_of_flag (by decide) (by omega), getLsbD_of_flag (by decide) (by omega), ?_, ?_,
    getLsbD_of_flag (by decide) (by omega), getLsbD_of_flag (by decide) (by omega),
    getLsbD_of_flag (by decide) (by omega), ?_⟩
  · rw [extract_ofNat _ _ _ (by omega)]
    omega
  · rw [extract_ofNat _ _ _ (by omega)]
    omega
  · rw [BitVec.toNat_ofNat]
    omega

/-! ### Registers and the scratch -/

/-- Settles O51. -/
theorem registerAndScratchAccesses : Obligations.RegisterAndScratchAccesses := by
  intro s addr w running idle a read gives held
  have elsewhere {addr : Word} {p : Place} (place : placeOf addr = p) (free : ∀ a, p ≠ .guarded a) (op : AccessOp) :
      access addr op s = serveElsewhere p op s := by
    rw [access_elsewhere running idle op (by rw [place]; exact free), place]
  have reads {addr : Word} {p : Place} (place : placeOf addr = p) (free : ∀ a, p ≠ .guarded a) (op : AccessOp) :
      (.next (access addr op s) : Host.Outcome State Fault Refusal) = .next (serveElsewhere p op s) :=
    congrArg _ (elsewhere place free op)
  have hold : readXstatHold s = held := by
    cases window : s.port.window <;> simp only [readXstatHold, drives, setPort, window, held] <;> simp
  obtain ⟨bit0, bit1, mode, lock, fltn, irq, pending, small⟩ := xstat_bits s
  refine ⟨⟨_, reads (p := .xcause) (by decide) nofun (.write w), rfl, fun i low => ?_⟩,
    fun place => ⟨_, reads place nofun (.write w), rfl, fun i low => ?_⟩, ?plain,
    fun clear => ?xctrl, ?_, fun place => ?_, fun place => reads place nofun .read, fun place => reads place nofun .read,
    fun place => reads place nofun .read, fun place => ?_, fun place => reads place nofun .read,
    bit0, bit1, mode, lock, fltn, irq, pending, small, fun canonical scratch => ?scratch⟩
  case plain =>
    rintro (place | place | place)
    all_goals exact reads place nofun (.write w)
  case xctrl =>
    refine (reads (p := .xctrl) (by decide) nofun (.write w)).trans (congrArg _ ?_)
    exact if_pos clear
  case scratch =>
    have place := placeOf_of_inScratch scratch
    refine ⟨reads place nofun .read, _, reads place nofun (.write w), rfl, Memory.read_writeWord_low _ _ _ canonical,
      Memory.read_writeWord_high _ _ _ canonical, Memory.readWord_writeWord _ _ _ canonical, fun b low high => ?_⟩
    exact Memory.read_writeWord_outside _ a _ _ (by omega)
  · simp [serveElsewhere, writeXcause, setPort, low]
  · simp [serveElsewhere, writeXcauseEn, setPort, low]
  · exact (reads (p := .xstatHold) (by decide) nofun .read).trans (congrArg _ hold)
  · exact (reads place nofun .read).trans (congrArg _ hold)
  · refine (reads place nofun .read).trans ?_
    cases m : s.port.mode <;> simp [serveElsewhere, drives, setPort, Port.xctrl, m]

/-! ### The guarded region -/

/-- A guarded access completes: it is served, and a window that waits for it opens (R165, R168). -/
def completed (x : Access) (s : State) : State :=
  setPort (({ s.port with inProgress := none } : Port).serve (wordAddress x.addr) x.op).afterGuarded s

theorem completeAccess_of_some {s : State} {x : Access} (busy : s.port.inProgress = some x) :
    completeAccess s = completed x s := by
  rw [completeAccess, busy]
  rfl

/-- The opening that follows a guarded access, by the window before it (R165, R168). -/
theorem afterGuarded_eq (p : Port) : p.afterGuarded =
    if p.window = .deferred ∨ (p.window = .closed ∧ p.opensAtCompletion = true) then p.openWindow else p := by
  unfold Port.afterGuarded
  cases window : p.window <;> simp

/-- Serving an access leaves the window. -/
theorem serve_window (p : Port) (a : Nat) (op : AccessOp) :
    (p.serve a op).window = p.window ∧ (p.serve a op).opensAtCompletion = p.opensAtCompletion := by
  cases op <;> exact ⟨rfl, rfl⟩

theorem completed_eq (x : Access) (s : State) : completed x s =
    let served := ({ s.port with inProgress := none } : Port).serve (wordAddress x.addr) x.op
    setPort (if s.port.window = .deferred ∨ (s.port.window = .closed ∧ s.port.opensAtCompletion = true) then
      served.openWindow else served) s := by
  unfold completed
  rw [afterGuarded_eq, (serve_window _ _ _).1, (serve_window _ _ _).2]

/-- A guarded access given whole, or by its beginning, with none in progress (R166). -/
theorem guarded_access {s : State} {addr : Word} (running : s.phase = .running) (guarded : inGuarded addr = true)
    (idle : s.port.inProgress = none) (op : AccessOp) :
    access addr op s = wholeGuarded { addr := addr, op := op } s ∧
      beginAccess addr op s = beginGuarded { addr := addr, op := op } s := by
  have place := placeOf_of_inGuarded guarded
  unfold access beginAccess
  rw [running]
  dsimp only [accessRunning, beginRunning, settle]
  rw [completeAccess_of_none idle, place]
  exact ⟨rfl, rfl⟩

theorem wholeGuarded_of_not_opened {s : State} (shut : s.port.window ≠ .opened) (x : Access) :
    wholeGuarded x s = completed x s ∧ beginGuarded x s = setPort { s.port with inProgress := some x } s := by
  unfold wholeGuarded beginGuarded
  cases window : s.port.window with
  | opened => exact absurd window shut
  | closed | deferred => exact ⟨completeAccess_of_some rfl, rfl⟩

theorem wholeGuarded_of_opened {s : State} (opened : s.port.window = .opened) (x : Access) :
    wholeGuarded x s = collide x s ∧ beginGuarded x s = collide x s := by
  unfold wholeGuarded beginGuarded
  rw [opened]
  exact ⟨rfl, rfl⟩

/-- Settles O52. -/
theorem guardedAccess : Obligations.GuardedAccess := by
  intro s addr w running guarded a read write reading writing done afterRead afterWrite opens served
  have completes (op : AccessOp) (p : Port)
      (same : ({ s.port with inProgress := none } : Port).serve (wordAddress addr) op = p) :
      completed { addr := addr, op := op } s = { s with port := served p } := by
    rw [completed_eq]
    dsimp only
    rw [same]
    rfl
  have whole (idle : s.port.inProgress = none) (op : AccessOp) :
      exec (.hostGuardedAccess (.whole addr op)) s = .next (wholeGuarded { addr := addr, op := op } s) :=
    congrArg _ (guarded_access running guarded idle op).1
  have begun (idle : s.port.inProgress = none) (op : AccessOp) :
      exec (.hostGuardedAccess (.begins addr op)) s = .next (beginGuarded { addr := addr, op := op } s) :=
    congrArg _ (guarded_access running guarded idle op).2
  have ends {x : Access} (busy : s.port.inProgress = some x) : done = .next (completed x s) :=
    congrArg _ (completeAccess_of_some busy)
  refine ⟨fun idle => ⟨fun shut => ⟨?_, ?_, ?_, ?_⟩, fun opened wait => ⟨?_, ?_⟩, fun opened noWait => ⟨?_, ?_⟩,
    fun opened => ⟨?_, ?_⟩, ?_⟩, fun busy => ?_, fun busy => ?_⟩
  · exact (whole idle .read).trans (congrArg _ ((wholeGuarded_of_not_opened shut _).1.trans (completes .read _ rfl)))
  · exact (whole idle (.write w)).trans
      (congrArg _ ((wholeGuarded_of_not_opened shut _).1.trans (completes (.write w) _ rfl)))
  · exact (begun idle .read).trans (congrArg _ (wholeGuarded_of_not_opened shut _).2)
  · exact (begun idle (.write w)).trans (congrArg _ (wholeGuarded_of_not_opened shut _).2)
  · refine (whole idle .read).trans (congrArg _ ((wholeGuarded_of_opened opened _).1.trans ?_))
    rw [collide, wait]
    rfl
  · refine (whole idle (.write w)).trans (congrArg _ ((wholeGuarded_of_opened opened _).1.trans ?_))
    rw [collide, wait]
    rfl
  · refine (whole idle .read).trans (congrArg _ ((wholeGuarded_of_opened opened _).1.trans ?_))
    rw [collide, noWait]
    rfl
  · refine (whole idle (.write w)).trans (congrArg _ ((wholeGuarded_of_opened opened _).1.trans ?_))
    rw [collide, noWait]
    rfl
  · obtain ⟨collides, begins⟩ := wholeGuarded_of_opened opened { addr := addr, op := .read }
    exact (begun idle .read).trans ((congrArg _ (begins.trans collides.symm)).trans (whole idle .read).symm)
  · obtain ⟨collides, begins⟩ := wholeGuarded_of_opened opened { addr := addr, op := .write w }
    exact (begun idle (.write w)).trans ((congrArg _ (begins.trans collides.symm)).trans (whole idle (.write w)).symm)
  · exact congrArg _ (completeAccess_of_none idle)
  · exact (ends busy).trans (congrArg _ (completes .read _ rfl))
  · exact (ends busy).trans (congrArg _ (completes (.write w) _ rfl))

end Sys2Proof.Proofs

/-! The work of a window in closed form: the frames taken, the rings served, the words written (R169 to R178), what a
reset keeps of it (R164), and the window as a whole. -/

namespace Sys2Proof.Proofs
open Sys2Proof.Machine

/-! ### Pieces as iterates -/

theorem takeFrame_take (s : State) : (takeFrame s).port.take = s.port.take + 1 := by
  simp [takeFrame, setPort]

/-- Frames are taken one after another, as many as wait (R170, R171). -/
theorem takeFrames_eq (n : Nat) (close : Word) (s : State) :
    takeFrames n close s = takeFrame^[min n (close - s.port.take).toNat] s := by
  induction n generalizing s with
  | zero => rw [Nat.zero_min]; rfl
  | succ n ih =>
    unfold takeFrames
    split
    case isTrue none =>
      rw [none, BitVec.sub_self]
      rfl
    case isFalse some =>
      have counted : (close - s.port.take).toNat = (close - (takeFrame s).port.take).toNat + 1 := by
        rw [takeFrame_take]
        bv_omega
      rw [ih, counted, Nat.add_min_add_right, Function.iterate_succ_apply]

/-- Reports are published one after another; one that cannot be stops its ring (R175). -/
theorem publish_eq_iterate (n : Nat) (id : RingId) (p : Port) : publish n id p = (publish 1 id)^[n] p := by
  induction n generalizing p with
  | zero => rfl
  | succ n ih =>
    rw [Function.iterate_succ_apply, ← ih]
    have stops (fixed : publish 1 id p = p) : publish n id (publish 1 id p) = p := by
      rw [fixed, ih]
      exact Function.iterate_fixed fixed n
    cases queue : (p.ring id).queue with
    | nil =>
      rw [stops (publish_of_empty queue)]
      exact publish_of_empty queue
    | cons rep rest =>
      by_cases fits : (p.ring id).canPublish id.areaSize rep = true
      · have next (m : Nat) : publish (m + 1) id p =
            publish m id (({ p with mem := p.mem.publish id (p.ring id) rep } : Port).setRing id
              ((p.ring id).advance id.areaSize rep rest)) := by
          rw [publish, queue]
          exact if_pos fits
        rw [next n, next 0]
        rfl
      · have stays (m : Nat) : publish (m + 1) id p = p := by
          rw [publish, queue]
          exact if_neg fits
        rw [stops (stays 0), stays n]

/-! ### The window's work by its pieces -/

theorem windowWork_intake {n : Nat} (few : n ≤ 4) (s : State) :
    windowWork n s = intakeUpTo n (s.port.mem.readWord 0x0000) s := by
  unfold windowWork
  rw [if_neg (by omega), if_neg (by omega), min_eq_right few]

/-- Steps 3 and 4 as far as piece n (R173, R175). -/
theorem windowWork_serving {n : Nat} (past : 4 < n) (before : n ≤ 12) (s : State) :
    windowWork n s = setPort ((windowWork 4 s).port.serveUpTo (min 4 (n - 4)) (min 4 (n - 8))
      (s.port.mem.readWord 0x0006) (s.port.mem.readWord 0x000A)) (windowWork 4 s) := by
  rw [windowWork_intake le_rfl]
  unfold windowWork
  rw [if_neg (by omega), if_pos past, min_eq_left (by omega)]

theorem windowWork_rings (s : State) : windowWork 12 s = { windowWork 4 s with
    port := (windowWork 4 s).port.serveRings (s.port.mem.readWord 0x0006) (s.port.mem.readWord 0x000A) } :=
  windowWork_serving (by decide) le_rfl s

theorem windowWork_owned {n : Nat} (past : 12 < n) (s : State) : windowWork n s = writeOwned (windowWork 12 s) := by
  rw [windowWork_rings, windowWork_intake le_rfl]
  unfold windowWork
  rw [if_pos past, if_pos (by omega), min_eq_left (by omega), min_eq_left (by omega), min_eq_left (by omega)]
  rfl

/-- The intake without an overrun takes frame after frame (R171). -/
theorem intakeUpTo_of_few {close : Word} {s : State} (few : (close - s.port.take).toNat ≤ 16) (n : Nat) :
    intakeUpTo n close s = takeFrame^[min n (close - s.port.take).toNat] s :=
  (if_neg (Nat.not_lt.2 few)).trans (takeFrames_eq n close s)

/-- An overrun is one piece (R170). -/
theorem intakeUpTo_of_overrun {close : Word} {s : State} (many : 16 < (close - s.port.take).toNat) (n : Nat) :
    intakeUpTo n close s = if n = 0 then s else overrun close s := if_pos many

/-! ### What a reset keeps of an open window -/

theorem abandonWindow_of_not_opened {s : State} (shut : s.port.window ≠ .opened) : abandonWindow s = s := by
  unfold abandonWindow
  cases window : s.port.window with
  | opened => exact absurd window shut
  | closed | deferred => rfl

theorem abandonWindow_of_opened {s : State} (opened : s.port.window = .opened) :
    abandonWindow s =
      let a := windowWork (Config.windowReached s.ticks) s
      let next := (windowWork (Config.windowReached s.ticks + 1) s).port.mem
      setPort { a.port with mem := Memory.mixed (Config.windowWrote s.ticks) next a.port.mem } a := by
  rw [abandonWindow, opened]

/-- The counts and the frame tables read 0, every other byte as before (R164). -/
theorem read_countsZeroed (m : Memory) (a : Nat) : m.countsZeroed.read a =
    if a < 0x0010 ∨ (0x0100 ≤ a ∧ a < 0x01C0) then 0 else m.read a := by
  rw [Memory.countsZeroed, Memory.read_zeroed, Memory.read_zeroed]
  by_cases tables : 0x0100 ≤ a ∧ a < 0x01C0
  · rw [if_pos tables, if_pos (.inr tables)]
  · rw [if_neg tables]
    simp [tables]

theorem retained_of_opened {s : State} (opened : s.port.window = .opened) :
    (abandonWindow s).faults.retained = (windowWork (Config.windowReached s.ticks) s).faults.retained := by
  rw [abandonWindow_of_opened opened]
  rfl

theorem read_of_opened {s : State} (opened : s.port.window = .opened) (canonical : MemorySafe s.port) (a : Nat) :
    (abandonWindow s).port.mem.countsZeroed.read a =
      if a < 0x0010 ∨ (0x0100 ≤ a ∧ a < 0x01C0) then 0
      else if a < 0x1600 ∧ Config.windowWrote s.ticks (a / 2) = true then
        (windowWork (Config.windowReached s.ticks + 1) s).port.mem.read a
      else (windowWork (Config.windowReached s.ticks) s).port.mem.read a := by
  rw [read_countsZeroed, abandonWindow_of_opened opened]
  dsimp only [setPort]
  rw [Memory.read_mixed _ _ _ _ ((windowWork_mem _ s).1 canonical)]

/-! ### The window as a whole -/

theorem setCauseIf_eq (b : Bool) (c : Cause) (s : State) : setCauseIf b c s =
    { s with port := { s.port with cause := s.port.cause ||| (if b then c.mask else 0) } } := by
  cases b
  · simp [setCauseIf]
  · rfl

/-- The causes a window sets (R169, R180). -/
def windowCauses (s : State) : BitVec 7 :=
  let u := windowWork 4 s
  let w := windowWork 13 s
  w.port.cause ||| (if s.port.takesFrames (s.port.mem.readWord 0x0000) then Cause.directivesTaken.mask else 0) |||
    (if w.port.event.publish != u.port.event.publish then Cause.eventPublished.mask else 0) |||
    (if w.port.trace.publish != u.port.trace.publish then Cause.tracePublished.mask else 0)

/-- The port once a window has closed, its held accesses still to serve (R166, R169). -/
def closedPort (s : State) : Port :=
  { (windowWork 13 s).port with cause := windowCauses s, window := .closed, windowAge := 0, held := [] }

theorem runWindow_eq (s : State) :
    runWindow s = { windowWork 13 s with port := (closedPort s).serveAll (windowWork 13 s).port.held } := by
  unfold runWindow closedPort windowCauses
  generalize windowWork 13 s = w
  generalize windowWork 4 s = u
  simp only [setCauseIf_eq, closeWindow]
  rfl

theorem exec_windowOpen {s : State} (opened : s.port.window = .opened) : exec .windowOpen s = .next (runWindow s) := by
  change execWindowOpen s = _
  rw [execWindowOpen, opened]

/-- Publishing writes the memory and the rings alone. -/
theorem publish_frame (n : Nat) (id : RingId) (p : Port) :
    ∃ mem event trace, publish n id p = { p with mem := mem, event := event, trace := trace } := by
  induction n generalizing p with
  | zero => exact ⟨_, _, _, rfl⟩
  | succ n ih =>
    unfold publish
    dsimp only
    split
    · exact ⟨_, _, _, rfl⟩
    · split
      · obtain ⟨mem, event, trace, frame⟩ := ih (({ p with mem := p.mem.publish id (p.ring id) _ } : Port).setRing id
          ((p.ring id).advance id.areaSize _ _))
        rw [frame]
        cases id <;> exact ⟨_, _, _, rfl⟩
      · exact ⟨_, _, _, rfl⟩

theorem serveUpTo_frame (p : Port) (i j : Nat) (e t : Word) :
    ∃ mem event trace, p.serveUpTo i j e t = { p with mem := mem, event := event, trace := trace } := by
  unfold Port.serveUpTo
  dsimp only
  obtain ⟨mem, event, trace, first⟩ := publish_frame i .event { p with event := p.event.release e, trace := p.trace.release t }
  rw [first]
  obtain ⟨mem', event', trace', second⟩ := publish_frame j .trace { p with mem := mem, event := event, trace := trace }
  exact ⟨mem', event', trace', second⟩

theorem windowWork_held (n : Nat) (s : State) : (windowWork n s).port.held = s.port.held := by
  have serves (i j : Nat) (p : Port) (e t : Word) : (p.serveUpTo i j e t).held = p.held := by
    obtain ⟨mem, event, trace, frame⟩ := serveUpTo_frame p i j e t
    rw [frame]
  unfold windowWork
  dsimp only
  split <;> split <;> simp [setPort, serves]

/-- A window without held accesses (R166, R169). -/
theorem runWindow_of_not_held {s : State} (none : s.port.held = []) :
    runWindow s = { windowWork 13 s with port := closedPort s } := by
  rw [runWindow_eq, windowWork_held, none]
  rfl

/-! ### Resets -/

/-- Settles O49. -/
theorem resetsBegin : Obligations.ResetsBegin := by
  intro s w zeroed kept blocks mode written waiting u released events
  have keeps (v t : State) (retained : t.faults.retained = (abandonWindow v).faults.retained)
      (mem : t.port.mem = (abandonWindow v).port.mem.countsZeroed) : kept v t := by
    refine ⟨fun shut => ?_, fun opened => ?_, fun opened canonical a => ?_⟩
    · rw [retained, mem, abandonWindow_of_not_opened shut]
      exact ⟨rfl, read_countsZeroed _⟩
    · exact retained.trans (retained_of_opened opened)
    · rw [mem]
      exact read_of_opened opened canonical a
  refine ⟨⟨beginPowerOn s, rfl, ⟨rfl, rfl, rfl, rfl, rfl, rfl, rfl, rfl, rfl, rfl, rfl⟩, rfl, rfl, rfl, rfl, rfl, rfl⟩,
    fun phase => ?pin, fun phase => ?lasting, fun running idle starts => ?soft, fun n few counted => ?taken,
    fun many => ?overruns, fun n pos few => ?rings, fun n past => windowWork_owned past s,
    fun opened none => ?window, fun n a place => ?untouched⟩
  case pin =>
    refine ⟨beginPin s, ?_, ⟨rfl, rfl, rfl, rfl, rfl, rfl, rfl, rfl, rfl, rfl, rfl⟩, rfl, rfl, keeps s _ rfl rfl, rfl, rfl⟩
    change execPinReset s = _
    rcases phase with running | ⟨left, soft⟩
    · rw [execPinReset, running]
    · rw [execPinReset, soft]
  case lasting =>
    change execPinReset s = _
    rcases phase with powerOn | pin
    · rw [execPinReset, powerOn]
    · rw [execPinReset, pin]
  case soft =>
    refine ⟨beginSoft written, ?_, ⟨rfl, rfl, rfl, rfl, rfl, rfl, rfl, rfl, rfl, rfl, rfl⟩, rfl, rfl,
      keeps written _ rfl rfl, rfl, rfl⟩
    have place : placeOf 0x1FF8 = .xctrl := by decide
    refine congrArg Host.Outcome.next ((access_elsewhere running idle (.write w) (by rw [place]; nofun)).trans ?_)
    rw [place]
    exact if_neg starts
  case taken => exact (windowWork_intake few s).trans (intakeUpTo_of_few counted n)
  case overruns =>
    refine ⟨(windowWork_intake (Nat.zero_le 4) s).trans (intakeUpTo_of_overrun many 0), fun n pos few => ?_⟩
    rw [windowWork_intake few, intakeUpTo_of_overrun many, if_neg (by omega)]
    exact ((windowWork_intake le_rfl s).trans (intakeUpTo_of_overrun many 4)).symm
  case rings =>
    have eventRing : publish n .event released = events n := publish_eq_iterate n .event released
    have both : publish n .trace (publish 4 .event released) = (publish 1 .trace)^[n] (events 4) := by
      rw [publish_eq_iterate n, publish_eq_iterate 4]
    rw [windowWork_serving (n := 4 + n) (by omega) (by omega), windowWork_serving (n := 8 + n) (by omega) (by omega),
      show min 4 (4 + n - 4) = n by omega, show min 4 (4 + n - 8) = 0 by omega,
      show min 4 (8 + n - 4) = 4 by omega, show min 4 (8 + n - 8) = n by omega, ← eventRing, ← both]
    exact ⟨rfl, rfl⟩
  case window =>
    refine ⟨_, exec_windowOpen opened, ?_⟩
    rw [runWindow_of_not_held none]
    unfold closedPort
    generalize windowWork 13 s = t
    exact ⟨rfl, rfl⟩
  case untouched =>
    rcases place with few | reserved
    · rw [windowWork_intake few]
      simp only [intakeUpTo_keeps]
    · exact (windowWork_mem n s).2 a reserved

end Sys2Proof.Proofs

/-! WINDOW_OPEN (R163, R166, R169 to R171, R173, R175, R178): what the whole of a window's work leaves. -/

namespace Sys2Proof.Proofs
open Sys2Proof.Machine

/-- Held accesses are served in their order (R166). -/
theorem serveAll_eq_foldl (l : List Access) (p : Port) :
    p.serveAll l = l.foldl (fun p x => p.serve (wordAddress x.addr) x.op) p := by
  induction l generalizing p with
  | nil => rfl
  | cons x l ih => exact ih _

/-- Serving accesses writes the memory and the data last driven alone. -/
theorem serveAll_frame (l : List Access) (p : Port) :
    ∃ mem adData, p.serveAll l = { p with mem := mem, adData := adData } := by
  induction l generalizing p with
  | nil => exact ⟨_, _, rfl⟩
  | cons x l ih =>
    obtain ⟨mem, adData, frame⟩ := ih (p.serve (wordAddress x.addr) x.op)
    rw [Port.serveAll, frame]
    cases x.op <;> exact ⟨_, _, rfl⟩

theorem takeFrame_iterate_take (n : Nat) (s : State) :
    (takeFrame^[n] s).port.take = s.port.take + BitVec.ofNat 16 n := by
  induction n generalizing s with
  | zero => simp
  | succ n ih =>
    rw [Function.iterate_succ_apply, ih, takeFrame_take, BitVec.ofNat_add]
    ac_rfl

/-- Step 5 writes the port alone. -/
theorem writeOwned_frame (s : State) : ∃ mem, writeOwned s =
    { s with port := { s.port with mem := mem, snapshotNumber := s.port.snapshotNumber + 1 } } := ⟨_, rfl⟩

/-- The state whose part-owned words a window writes: the frames taken, the rings served (R169). -/
def ringsServed (s : State) : State :=
  { windowWork 4 s with
    port := (windowWork 4 s).port.serveRings (s.port.mem.readWord 0x0006) (s.port.mem.readWord 0x000A) }

theorem windowWork_whole (s : State) : windowWork 13 s = writeOwned (ringsServed s) := by
  rw [windowWork_owned (by decide), windowWork_rings]
  rfl

theorem closedPort_mem (s : State) : (closedPort s).mem = (windowWork 13 s).port.mem := by
  unfold closedPort
  generalize windowWork 13 s = w
  rfl

/-- What a window leaves, before and after its held accesses are served. -/
theorem window_leaves (s : State) :
    ∃ mem mem' adData,
      closedPort s = { (ringsServed s).port with
        mem := mem, snapshotNumber := (ringsServed s).port.snapshotNumber + 1, cause := windowCauses s
        window := .closed, windowAge := 0, held := [] } ∧
      runWindow s = { windowWork 4 s with port := { closedPort s with mem := mem', adData := adData } } := by
  obtain ⟨mem, owned⟩ := writeOwned_frame (ringsServed s)
  obtain ⟨mem', adData, serves⟩ := serveAll_frame (windowWork 13 s).port.held (closedPort s)
  refine ⟨mem, mem', adData, ?_, ?_⟩
  · rw [closedPort, windowWork_whole, owned]
  · rw [runWindow_eq, serves, windowWork_whole, owned]
    rfl

theorem ringsServed_frame (s : State) : ∃ mem event trace,
    (ringsServed s).port = { (windowWork 4 s).port with mem := mem, event := event, trace := trace } :=
  serveUpTo_frame _ 4 4 _ _

/-- The causes of a window, in the terms of the waiting frames and of the rings served. -/
theorem windowCauses_eq (s : State) :
    windowCauses s = (windowWork 4 s).port.cause |||
      (if 1 ≤ s.port.waiting (s.port.mem.readWord 0x0000) ∧ s.port.waiting (s.port.mem.readWord 0x0000) ≤ 16 then 0x02
        else 0) |||
      (if (ringsServed s).port.event.publish ≠ (windowWork 4 s).port.event.publish then 0x04 else 0) |||
      (if (ringsServed s).port.trace.publish ≠ (windowWork 4 s).port.trace.publish then 0x08 else 0) := by
  obtain ⟨mem, owned⟩ := writeOwned_frame (ringsServed s)
  obtain ⟨_, _, _, rings⟩ := ringsServed_frame s
  have cause : (ringsServed s).port.cause = (windowWork 4 s).port.cause := by rw [rings]
  unfold windowCauses
  rw [windowWork_whole, owned]
  dsimp only
  rw [cause]
  simp only [Port.takesFrames, Bool.and_eq_true, decide_eq_true_eq, bne_iff_ne]
  rfl

theorem goodEntry_iff (offset length : Word) :
    goodEntry offset length = true ↔ offset.toNat ≤ 2047 ∧ 2 ≤ length.toNat ∧ length.toNat ≤ 256 := by
  simp [goodEntry, and_assoc]

/-- An overrun raises DIRECTIVE_OVERRUN with the take count moved to the close count (R170). -/
theorem overrun_takes (close : Word) (s : State) :
    (overrun close s).port.take = close ∧ ((overrun close s).faults.get .directiveOverrun).state = .latched ∧
      ((overrun close s).faults.get .directiveOverrun).count = bump 255 (s.faults.get .directiveOverrun).count := by
  unfold overrun
  dsimp only
  rw [raise_get_same, raised_startAck]
  refine ⟨?_, rfl, rfl⟩
  simp only [raise_keeps, setPort]

/-- Settles O54. -/
theorem windowRuns : Obligations.WindowRuns := by
  intro s opened close waiting last offset length good u rings serve
  have few (within : ¬ 16 < waiting) : windowWork 4 s = takeFrame^[min 4 waiting] s :=
    (windowWork_intake le_rfl s).trans (intakeUpTo_of_few (Nat.not_lt.1 within) 4)
  have taken : windowWork 4 s = u := by
    by_cases many : 16 < waiting
    · rw [windowWork_intake le_rfl, intakeUpTo_of_overrun many, if_neg (by decide)]
      refine Eq.trans ?_ (if_pos many).symm
      simp only [overrun, goodEntry_iff]
      rfl
    · exact (few many).trans (if_neg many).symm
  obtain ⟨mem, mem', adData, closed, leaves⟩ := window_leaves s
  have causes := windowCauses_eq s
  obtain ⟨_, event, trace, served⟩ := ringsServed_frame s
  have ringed : (ringsServed s).port = rings := by rw [ringsServed, taken]
  rw [taken] at causes leaves served
  rw [ringed] at causes closed served
  have kept : u.port.snapshotNumber = s.port.snapshotNumber := by
    rw [← taken, windowWork_intake le_rfl]
    simp only [intakeUpTo_keeps]
  have whole : windowWork 13 s = writeOwned { u with port := rings } := by
    rw [windowWork_whole, ringsServed, taken]
  clear_value u rings
  have port : (runWindow s).port = { u.port with
      mem := mem', event := rings.event, trace := rings.trace, adData := adData
      snapshotNumber := u.port.snapshotNumber + 1, cause := windowCauses s, window := .closed, windowAge := 0
      held := [] } := by
    rw [leaves, closed, served]
  have frame : runWindow s = { u with port := (runWindow s).port } := by rw [leaves]
  have untouched (none : s.port.held = []) {a : Nat} (reserved : Reserved a) :
      (runWindow s).port.mem.read a = s.port.mem.read a := by
    rw [runWindow_of_not_held none]
    dsimp only
    rw [closedPort_mem]
    exact (windowWork_mem 13 s).2 a reserved
  refine ⟨runWindow s, exec_windowOpen opened, (congrArg Port.window port :), (congrArg Port.held port :), frame,
    (congrArg Port.take port :), (congrArg Port.expected port :), (congrArg Port.map port :), (congrArg Port.selection port :),
    (congrArg Port.event port :), (congrArg Port.trace port :), (congrArg Port.enable port :), (congrArg Port.mode port :),
    (congrArg Port.timer port :), (congrArg Port.snapshotNumber port :).trans (congrArg (· + 1) kept), fun many => ?_,
    fun within => (congrArg Port.take port :).trans ?_, (congrArg Port.cause port :).trans causes, fun nothing => ?_, ?_,
    fun none a high => untouched none (.inl high), fun none a low high => untouched none (.inr ⟨low, high⟩)⟩
  · have many' : u = overrun close s :=
      taken.symm.trans ((windowWork_intake le_rfl s).trans (intakeUpTo_of_overrun many 4))
    obtain ⟨take, latched, count⟩ := overrun_takes close s
    rw [← many'] at take latched count
    rw [frame]
    exact ⟨(congrArg Port.take port :).trans take, latched, count⟩
  · have one : u = takeFrame^[min 4 waiting] s := taken.symm.trans (few (Nat.not_lt.2 within))
    dsimp only
    rw [one]
    exact takeFrame_iterate_take _ s
  · have same : u = s := by
      rw [← taken, few (by omega), nothing]
      rfl
    refine frame.trans ?_
    rw [same]
  · have cause : (runWindow s).port.cause = windowCauses s := (congrArg Port.cause port :)
    rw [runWindow_eq, windowWork_held, serveAll_eq_foldl] at cause ⊢
    rw [cause]
    unfold closedPort
    rw [whole]
    rfl

end Sys2Proof.Proofs

/-! The records a window writes (R159, R160, R178, R182, R193, R194): the snapshot byte by byte, and what the memory
reads after step 5. -/

namespace Sys2Proof.Proofs
open Sys2Proof.Machine

/-! ### The snapshot -/

theorem wordBytes_packBytes (low high : Nat) : wordBytes (packBytes low high) = [byteOfNat low, byteOfNat high] := by
  rw [packBytes, wordBytes, lowByte_joinBytes, highByte_joinBytes]

theorem bit_eq_ite (b : Bool) : bit b = if b then 1 else 0 := rfl

theorem mul_bit (n : Nat) (b : Bool) : n * bit b = if b then n else 0 := by cases b <;> simp [bit]

/-- Six flags as a byte, the first in bit 0. -/
theorem setByte_finRange (f : Fin 6 → Bool) :
    setByte ((List.finRange 6).map f) = ((List.finRange 6).map fun i => if f i then 2 ^ i.val else 0).sum := by
  have six : List.finRange 6 = [0, 1, 2, 3, 4, 5] := by decide
  simp only [six, List.map_cons, List.map_nil, setByte, ← mul_bit, List.sum_cons, List.sum_nil]
  simp
  omega

/-- The fault table in code order. -/
theorem table_toList (m : FaultMonitor) : m.table.toList = FaultKind.all.map m.get := by
  rw [toList_eq_map_finRange, ← map_idx_all, List.map_map]
  rfl

/-- How many kinds stand in a state (Table 11-9). -/
theorem countIn_eq (m : FaultMonitor) (st : KindState) :
    m.countIn st = (FaultKind.all.filter fun k => (m.get k).state = st).length := by
  rw [FaultMonitor.countIn, table_toList, List.filter_map, List.length_map]
  rfl

/-- Some kind that is not CLEAR has the effective reaction (R151). -/
def inForce (m : FaultMonitor) (reaction : Reaction) : Bool :=
  FaultKind.all.any fun k => (m.get k).state ≠ .clear ∧ (m.get k).effective = reaction

theorem inForce_iff (m : FaultMonitor) (reaction : Reaction) :
    inForce m reaction = true ↔ ∃ k, (m.get k).state ≠ .clear ∧ (m.get k).effective = reaction := by
  simp only [inForce, List.any_eq_true, decide_eq_true_eq]
  exact exists_congr fun k => and_iff_right (mem_faultKinds k)

theorem degradeInForce_eq (m : FaultMonitor) : m.degradeInForce = inForce m .degrade := by
  rw [Bool.eq_iff_iff, degradeInForce_iff, inForce_iff]

theorem safeClassPresent_eq (m : FaultMonitor) : m.safeClassPresent = inForce m .safe := by
  rw [Bool.eq_iff_iff, safeClassPresent_iff, inForce_iff]

/-- The status flags (Table 11-10). -/
theorem statusByte_eq (s : State) : s.statusByte =
    (if inForce s.faults .degrade then 1 else 0) +
      (if inForce s.faults .degrade ∨ inForce s.faults .safe ∨ s.faults.minTimer ≠ none then 2 else 0) +
      (if s.tables.commitPending then 4 else 0) + (if s.bus.stuck then 8 else 0) := by
  have active : s.faults.fltnActive = true ↔
      inForce s.faults .degrade = true ∨ inForce s.faults .safe = true ∨ s.faults.minTimer ≠ none := by
    rw [FaultMonitor.fltnActive, Bool.or_eq_true, Bool.or_eq_true, or_assoc, degradeInForce_eq, safeClassPresent_eq,
      Option.isSome_iff_ne_none]
  rw [State.statusByte, mul_bit, mul_bit, mul_bit, degradeInForce_eq, bit_eq_ite]
  simp only [active]

theorem presentByte_eq (b : Bus) : b.presentByte =
    ((List.finRange 6).map fun i => if (b.device i).cfg.enabled then 2 ^ i.val else 0).sum := by
  rw [Bus.presentByte, toList_eq_map_finRange, List.map_map, setByte_finRange]
  rfl

theorem joinedByte_eq (b : Bus) : b.joinedByte =
    ((List.finRange 6).map fun i => if (b.device i).cfg.enabled && (b.device i).run.joined then 2 ^ i.val else 0).sum := by
  rw [Bus.joinedByte, toList_eq_map_finRange, List.map_map, setByte_finRange]
  rfl

/-! ### What the memory reads after step 5 -/

theorem readWord_writeBytes_outside {m : Memory} {a c : Nat} {l : List Byte} (apart : c + 2 ≤ a ∨ a + l.length ≤ c) :
    (m.writeBytes a l).readWord c = m.readWord c := by
  rw [Memory.readWord, Memory.readWord, Memory.read_writeBytes_outside _ _ _ _ (by omega),
    Memory.read_writeBytes_outside _ _ _ _ (by omega)]

theorem readWord_writeWord_outside {m : Memory} {a c : Nat} {w : Word} (apart : c + 2 ≤ a ∨ a + 2 ≤ c) :
    (m.writeWord a w).readWord c = m.readWord c :=
  readWord_writeBytes_outside (l := wordBytes w) apart

theorem retained_length (r : Retained) : r.bytes.length = 16 := by simp [Retained.bytes, wordBytes]

/-- The records leave the counts (Table 11-1). -/
theorem readWord_writeRecords (s : State) (m : Memory) {a : Nat} (low : a + 2 ≤ 0x0040) :
    (m.writeRecords s).readWord a = m.readWord a := by
  unfold Memory.writeRecords
  dsimp only
  rw [readWord_writeBytes_outside (by omega), readWord_writeBytes_outside (by omega),
    readWord_writeBytes_outside (by omega)]

/-- The counts that a write of the port's words leaves (Table 11-1). -/
theorem readWord_writeCounts (p : Port) {m : Memory} (canonical : m.wf = true) :
    (m.writeCounts p).readWord 0x0002 = p.take ∧ (m.writeCounts p).readWord 0x0004 = p.event.publish ∧
    (m.writeCounts p).readWord 0x0008 = p.trace.publish ∧
    (m.writeCounts p).readWord 0x000C = BitVec.ofNat 16 p.event.dropped ∧
    (m.writeCounts p).readWord 0x000E = BitVec.ofNat 16 p.trace.dropped := by
  have c1 := Memory.writeWord_wf _ 0x0002 p.take canonical
  have c2 := Memory.writeWord_wf _ 0x0004 p.event.publish c1
  have c3 := Memory.writeWord_wf _ 0x0008 p.trace.publish c2
  have c4 := Memory.writeWord_wf _ 0x000C (wordOfNat p.event.dropped) c3
  unfold Memory.writeCounts
  dsimp only
  refine ⟨?_, ?_, ?_, ?_, Memory.readWord_writeWord _ _ _ c4⟩
  · rw [readWord_writeWord_outside (by omega), readWord_writeWord_outside (by omega),
      readWord_writeWord_outside (by omega), readWord_writeWord_outside (by omega),
      Memory.readWord_writeWord _ _ _ canonical]
  · rw [readWord_writeWord_outside (by omega), readWord_writeWord_outside (by omega),
      readWord_writeWord_outside (by omega), Memory.readWord_writeWord _ _ _ c1]
  · rw [readWord_writeWord_outside (by omega), readWord_writeWord_outside (by omega),
      Memory.readWord_writeWord _ _ _ c2]
  · rw [readWord_writeWord_outside (by omega), Memory.readWord_writeWord _ _ _ c3]
    rfl

theorem writeCounts_wf (p : Port) {m : Memory} (canonical : m.wf = true) : (m.writeCounts p).wf = true := by
  unfold Memory.writeCounts
  exact Memory.writeWord_wf _ _ _ (Memory.writeWord_wf _ _ _ (Memory.writeWord_wf _ _ _ (Memory.writeWord_wf _ _ _
    (Memory.writeWord_wf _ _ _ canonical))))

/-- The three records where step 5 puts them (R193, R194). -/
theorem read_writeRecords (s : State) {m : Memory} (canonical : m.wf = true) :
    (∀ i, i < 64 → (m.writeRecords s).read (0x0040 + i) = s.snapshotBytes.getD i 0) ∧
    (∀ i, i < 80 → (m.writeRecords s).read (0x0080 + i) = s.faults.pageBytes.getD i 0) ∧
    (∀ i, i < 16 → (m.writeRecords s).read (0x00D0 + i) = s.faults.retained.bytes.getD i 0) := by
  have snapshot := s.snapshotBytes_length
  have page := s.faults.pageBytes_length
  have c1 := Memory.writeBytes_wf m 0x0040 s.snapshotBytes canonical
  have c2 := Memory.writeBytes_wf _ 0x0080 s.faults.pageBytes c1
  unfold Memory.writeRecords
  dsimp only
  refine ⟨fun i small => ?_, fun i small => ?_, fun i small => ?_⟩
  · rw [Memory.read_writeBytes_outside _ _ _ _ (by omega), Memory.read_writeBytes_outside _ _ _ _ (by omega),
      Memory.read_writeBytes_inside _ _ _ _ canonical (by omega)]
  · rw [Memory.read_writeBytes_outside _ _ _ _ (by omega), Memory.read_writeBytes_inside _ _ _ _ c1 (by omega)]
  · rw [Memory.read_writeBytes_inside _ _ _ _ c2 (by rw [retained_length]; exact small)]

/-- An entry of a list of four-byte entries. -/
theorem getD_flatMap_four {α : Type} (f : α → List Byte) (four : ∀ x, (f x).length = 4) (l : List α) {i j : Nat}
    (inside : i < l.length) (byte : j < 4) : (l.flatMap f).getD (4 * i + j) 0 = (f l[i]).getD j 0 := by
  induction l generalizing i with
  | nil => exact absurd inside (Nat.not_lt_zero _)
  | cons x l ih =>
    rw [List.flatMap_cons]
    cases i with
    | zero =>
      rw [List.getD_append _ _ _ _ (by rw [four]; omega)]
      simp
    | succ i =>
      rw [List.getD_append_right _ _ _ _ (by rw [four]; omega), four,
        show 4 * (i + 1) + j - 4 = 4 * i + j by omega, ih (by simpa using inside)]
      rfl

/-- A kind's entry of the fault page (Table 11-11). -/
theorem pageBytes_entry (m : FaultMonitor) (k : FaultKind) {j : Nat} (byte : j < 4) :
    m.pageBytes.getD (4 * (k.code - 1) + j) 0 = (m.get k).pageEntry.getD j 0 := by
  have inside : k.code - 1 < m.table.toList.length := by
    rw [Vector.length_toList, FaultKind.code, Nat.add_sub_cancel]
    exact k.idx.isLt
  rw [FaultMonitor.pageBytes, getD_flatMap_four _ (fun _ => rfl) _ inside byte]
  simp only [FaultKind.code, Nat.add_sub_cancel, Vector.getElem_toList]
  rfl

/-- Step 5 shows the part's own words in the memory (R178, R193, R194). -/
structure ShowsOwned (t : State) : Prop where
  take : t.port.mem.readWord 0x0002 = t.port.take
  event : t.port.mem.readWord 0x0004 = t.port.event.publish
  trace : t.port.mem.readWord 0x0008 = t.port.trace.publish
  eventDropped : t.port.mem.readWord 0x000C = BitVec.ofNat 16 t.port.event.dropped
  traceDropped : t.port.mem.readWord 0x000E = BitVec.ofNat 16 t.port.trace.dropped
  snapshot : ∀ i, i < 64 → t.port.mem.read (0x0040 + i) = t.snapshotBytes.getD i 0
  page : ∀ i, i < 80 → t.port.mem.read (0x0080 + i) = t.faults.pageBytes.getD i 0
  retained : ∀ i, i < 16 → t.port.mem.read (0x00D0 + i) = t.faults.retained.bytes.getD i 0

theorem writeOwned_shows {s : State} (canonical : MemorySafe s.port) : ShowsOwned (writeOwned s) := by
  let n : State := setPort { s.port with snapshotNumber := s.port.snapshotNumber + 1 } s
  have owned : writeOwned s = setPort { n.port with mem := (s.port.mem.writeCounts n.port).writeRecords n } n := by
    simp only [writeOwned, setPort, n]
  obtain ⟨take, event, trace, eventDropped, traceDropped⟩ := readWord_writeCounts n.port canonical
  rw [← readWord_writeRecords n _ (by decide)] at take event trace eventDropped traceDropped
  obtain ⟨snapshot, page, retained⟩ := read_writeRecords n (writeCounts_wf n.port canonical)
  rw [owned]
  generalize (s.port.mem.writeCounts n.port).writeRecords n = mem at *
  clear_value n
  exact ⟨take, event, trace, eventDropped, traceDropped, snapshot, page, retained⟩

/-- A window without held accesses closes on what step 5 wrote. -/
theorem runWindow_shows {s : State} (canonical : MemorySafe s.port) (none : s.port.held = []) :
    ShowsOwned (runWindow s) := by
  have served : MemorySafe (ringsServed s).port :=
    (serveUpTo_mem _ 4 4 _ _).1 ((windowWork_mem 4 s).1 canonical)
  obtain ⟨take, event, trace, eventDropped, traceDropped, snapshot, page, retained⟩ := writeOwned_shows served
  rw [runWindow_of_not_held none]
  unfold closedPort
  rw [windowWork_whole]
  generalize writeOwned (ringsServed s) = t at *
  generalize windowCauses s = causes
  clear served canonical
  exact ⟨take, event, trace, eventDropped, traceDropped, snapshot, page, retained⟩

/-- Settles O55. -/
theorem windowWritesRecords : Obligations.WindowWritesRecords := by
  unfold Obligations.WindowWritesRecords
  intro kinds word signed unsigned byte snapshot
  have shows (s : State) : s.snapshotBytes = snapshot s := by
    simp only [State.snapshotBytes, State.snapshotWords, List.flatMap_cons, List.flatMap_nil, wordBytes_packBytes,
      presentByte_eq, joinedByte_eq, countIn_eq, statusByte_eq]
    simp only [wordBytes, lowByte, highByte, snapshot, word, signed, unsigned, byte, List.cons_append, List.nil_append]
    rfl
  refine ⟨fun s => ⟨shows s, shows s ▸ s.snapshotBytes_length⟩, fun s canonical opened none => ?_, by decide, by decide,
    by decide, by decide, by decide, by decide, by decide⟩
  obtain ⟨take, event, trace, eventDropped, traceDropped, snapshot, page, retained⟩ := runWindow_shows canonical none
  refine ⟨runWindow s, exec_windowOpen opened, take, event, trace, eventDropped, traceDropped, fun i small => ?_,
    fun k => ?_, retained⟩
  · rw [snapshot i small, shows]
  · intro r e
    have entry {j : Nat} (byte : j < 4) : (runWindow s).port.mem.read (e + j) = r.pageEntry.getD j 0 := by
      have inside : 4 * (k.code - 1) + j < 80 := by
        have := k.idx.isLt
        simp only [FaultKind.code]
        omega
      rw [← pageBytes_entry _ k byte, ← page _ inside, ← Nat.add_assoc]
    refine ⟨entry (j := 0) (by decide), (entry (j := 1) (by decide)).trans ?_, entry (j := 2) (by decide),
      entry (j := 3) (by decide)⟩
    rw [← mul_bit, ← mul_bit]
    rfl

end Sys2Proof.Proofs

/-! The directive frames and the report frames (R171, R173 to R177, R184 to R192): intake and decode, publishing into a
ring, the report map and the trace. -/

namespace Sys2Proof.Proofs
open Sys2Proof.Machine

/-! ### Intake and decode -/

/-- A length that depends on a count fits a body that holds the count and as many bytes as it says (R185). -/
theorem countedLength_iff (base size : Nat) (body : List Byte) :
    countedLength base size body = some body.length ↔
      2 ≤ body.length ∧ body.length = base + size * (body.getD 1 0).toNat := by
  match body with
  | [] => simp [countedLength]
  | [_] => simp [countedLength]
  | _ :: n :: rest => simp [countedLength, eq_comm]

theorem ofCode_eq_none {n : Nat} (beyond : n = 0 ∨ 20 < n) : Directive.ofCode n = none := by
  rcases beyond with zero | above
  · rw [zero]
    rfl
  · obtain ⟨m, rfl⟩ := Nat.exists_eq_succ_of_ne_zero (show n ≠ 0 by omega)
    exact List.getElem?_eq_none (by change 20 ≤ m; omega)

/-- A frame in place is decoded, delivered and answered (R171, R185). -/
theorem takeInPlace_eq (kind tag : Byte) (body : List Byte) (s : State) :
    takeInPlace (kind :: tag :: body) s =
      stageDone kind tag (decodeAndDeliver kind tag body s).2 (decodeAndDeliver kind tag body s).1 := rfl

theorem decode_of_code {kind : Byte} {d : Directive} (code : Directive.ofCode kind.toNat = some d) (tag : Byte)
    (body : List Byte) (s : State) : decodeAndDeliver kind tag body s =
      if d.bodyLength body = some body.length then deliver d tag body s
      else (s, some (.plain .badLength body.length)) := by
  rw [decodeAndDeliver, code]

/-- Settles O56. -/
theorem frameIntakeAndDecode : Obligations.FrameIntakeAndDecode := by
  unfold Obligations.FrameIntakeAndDecode
  intro table fits
  have named : ∀ p ∈ table, Directive.ofCode p.1 = some p.2 := by decide
  have fits_iff (body : List Byte) (d : Directive) : fits body d ↔ d.bodyLength body = some body.length := by
    cases d with
    | loadMap | passThrough | setTrace =>
      simp only [fits, Directive.bodyLength, countedLength_iff, one_mul]
    | _ => simp only [fits, Directive.bodyLength, Option.some.injEq, eq_comm]
  refine ⟨fun s => ?_, fun kind tag body s => ?_⟩
  · intro e offset length good next t counted anchored
    have entry : goodEntry offset length = true ↔ good := goodEntry_iff offset length
    have sound (fine : good) : ¬ goodEntry offset length = false := by
      rw [entry.2 fine]
      nofun
    have judged : t = counted (judgeFrame s) := rfl
    refine ⟨fun bad => ?_, fun fine elsewhere => ?_, fun fine here => ?_⟩
    · have refused : judgeFrame s = refuseFrame .badLength [offset, length] s :=
        if_pos (Bool.eq_false_iff.2 fun fine => bad (entry.1 fine))
      rw [judged, refused]
      rfl
    · have refused : judgeFrame s =
          refuseFrame .placement [offset, length, BitVec.ofNat 16 s.port.expected] anchored :=
        (if_neg (sound fine)).trans (if_pos elsewhere)
      rw [judged, refused]
      rfl
    · have taken : judgeFrame s = takeInPlace (s.port.mem.readRing 0x0200 2048 offset.toNat length.toNat) anchored :=
        (if_neg (sound fine)).trans (if_neg (not_not.2 here))
      rw [judged, taken]
      rfl
  · intro t
    have whole : t = stageDone kind tag (decodeAndDeliver kind tag body s).2 (decodeAndDeliver kind tag body s).1 :=
      takeInPlace_eq kind tag body s
    refine ⟨fun beyond => ?_, fun d named' long => ?_, fun d named' right queued => ?_, fun d a named' right answer => ?_⟩
    · have code : Directive.ofCode kind.toNat = none :=
        ofCode_eq_none (beyond.imp_left fun zero => by rw [zero]; rfl)
      rw [whole, decodeAndDeliver, code]
      rfl
    · rw [whole, decode_of_code (named _ named'), if_neg fun same => long ((fits_iff body d).2 same)]
      rfl
    · rw [whole, decode_of_code (named _ named'), if_pos ((fits_iff body d).1 right), queued]
      rfl
    · rw [whole, decode_of_code (named _ named'), if_pos ((fits_iff body d).1 right), answer]
      rfl

/-! ### The report map and the trace -/

theorem destinationOfCode_eq (n : Nat) :
    Destination.ofCode n = if n = 0 then .event else if n = 1 then .trace else .discard := by
  match n with
  | 0 => rfl
  | 1 => rfl
  | n + 2 => simp [Destination.ofCode]

/-- A word's bytes among those of a list of words, past its end too (R192). -/
theorem getD_flatMap_wordBytes (l : List Word) (i : Nat) :
    (l.flatMap wordBytes).getD (2 * i) 0 = lowByte (l.getD i 0) ∧
      (l.flatMap wordBytes).getD (2 * i + 1) 0 = highByte (l.getD i 0) := by
  induction l generalizing i with
  | nil => exact ⟨by simp [lowByte], by simp [highByte]⟩
  | cons w l ih =>
    cases i with
    | zero => exact ⟨rfl, rfl⟩
    | succ i => exact ih i

/-- A trace value is the word its code names in the snapshot (R192). -/
theorem traceValue_eq (s : State) (c : Nat) :
    s.traceValue c = joinBytes (s.snapshotBytes.getD (2 * c) 0) (s.snapshotBytes.getD (2 * c + 1) 0) := by
  obtain ⟨low, high⟩ := getD_flatMap_wordBytes s.snapshotWords c
  rw [State.snapshotBytes, low, high, joinBytes_wordBytes]
  rfl

theorem keptCodes_eq (codes : List Byte) :
    keptCodes codes = ((codes.take 8).map BitVec.toNat).filter fun c => decide (1 ≤ c ∧ c ≤ 30) := by
  simp only [keptCodes, Bool.decide_and]

/-- Settles O60. -/
theorem traceAndReportMap : Obligations.TraceAndReportMap := by
  refine ⟨fun tag body s => ?_, fun tag decimation count codes s counted => ?_, fun s => ?_⟩
  · intro r destination above clamped
    have few : clamped ≤ 255 := by
      have one (i : Nat) : above i ≤ 1 := by
        simp only [above]
        split <;> omega
      have := one 0
      have := one 1
      have := one 3
      have := one 4
      have := one 5
      simp only [clamped]
      split <;> omega
    have answers : Done.clamped clamped = if clamped = 0 then .plain .accepted 0 else .plain .acceptedClamped clamped := by
      rw [Done.clamped, min_eq_right few]
    have map (i : Nat) : clampDestination body i = (destination i, above i) := by
      rw [clampDestination, destinationOfCode_eq]
    rw [← answers]
    change answered (setReportMap body s) = _
    simp only [setReportMap, map, clampFaultDestination]
    rfl
  · intro kept clamped
    have all : ((decimation :: count :: codes).drop 2).take (byteAt (decimation :: count :: codes) 1) = codes :=
      List.take_of_length_le counted.le
    have rate : clampCount 0 250 (byteAt (decimation :: count :: codes) 0) =
        (min 250 decimation.toNat, if 250 < decimation.toNat then 1 else 0) := by
      rw [clampCount_zero, outOf]
      simp [byteAt]
    change answered (setTrace (decimation :: count :: codes) s) = _
    rw [setTrace, all, rate, keptCodes_eq]
    rfl
  · intro x t
    refine ⟨fun off => if_pos off, fun rate codes counts => ?_, fun rate codes full => ?_, fun c computing => ?_⟩
    · exact (if_neg (not_or.2 ⟨rate, codes⟩)).trans (if_pos counts)
    · refine (if_neg (not_or.2 ⟨rate, codes⟩)).trans ((if_neg (Nat.not_lt.2 full)).trans ?_)
      rw [show s.traceValue = _ from funext (traceValue_eq s)]
    · simp only [exec, execComputationComplete, computing, completeComputation]
      rfl

end Sys2Proof.Proofs

/-! Publishing a report (R175, R182, R184, R189, R191): the frame's bytes in the ring's area, its entry in the frame
table, and what stays. -/

namespace Sys2Proof.Proofs
open Sys2Proof.Machine

/-! ### Places in a ring's area -/

theorem areaSize_pos (id : RingId) : 0 < id.areaSize := by cases id <;> decide

/-- Two offsets less than the area's size apart stand at two places. -/
theorem place_ne {w i j size : Nat} (before : i < j) (near : j < i + size) : (w + i) % size ≠ (w + j) % size := by
  intro same
  have apart : (w + j - (w + i)) % size = 0 := Nat.sub_mod_eq_zero_of_mod_eq same.symm
  rw [Nat.add_sub_add_left, Nat.mod_eq_of_lt (by omega)] at apart
  omega

/-- A ring's frame table lies below every area, and an entry within it (Table 11-1). -/
theorem entry_below (id : RingId) (n : Nat) : id.tableBase + 4 * (n % 16) + 4 ≤ 0x01C0 := by
  have := Nat.mod_lt n (by decide : 0 < 16)
  cases id <;> simp only [RingId.tableBase] <;> omega

theorem area_above (id : RingId) : 0x0A00 ≤ id.areaBase := by cases id <;> decide

/-! ### A report's bytes -/

theorem padded_length (rep : Report) : rep.padded.length = footprint rep.frame.length := by
  simp [Report.padded, footprint]

theorem padded_getD_frame (rep : Report) {i : Nat} (inside : i < rep.frame.length) :
    rep.padded.getD i 0 = rep.frame.getD i 0 := List.getD_append _ _ _ _ inside

theorem padded_getD_pad (rep : Report) : rep.padded.getD rep.frame.length 0 = 0 := by
  rw [Report.padded, List.getD_append_right _ _ _ _ le_rfl, Nat.sub_self]
  cases rep.frame.length % 2 <;> rfl

/-! ### The memory -/

section
variable {id : RingId} {r : Ring} {rep : Report} {m : Memory}

/-- Below the area only the entry is written. -/
theorem read_publish_area {a : Nat} (high : 0x01C0 ≤ a) :
    (m.publish id r rep).read a = (m.writeRing id.areaBase id.areaSize r.writePos rep.padded).read a := by
  have entry := entry_below id r.publish.toNat
  unfold Memory.publish
  dsimp only
  rw [Memory.read_writeWord_outside _ _ _ _ (by omega), Memory.read_writeWord_outside _ _ _ _ (by omega)]

/-- A byte of the frame, or its pad byte, at its place (R175). -/
theorem read_publish_inside (canonical : m.wf = true) (fits : footprint rep.frame.length ≤ id.areaSize) {i : Nat}
    (inside : i < rep.padded.length) :
    (m.publish id r rep).read (id.areaBase + (r.writePos + i) % id.areaSize) = rep.padded.getD i 0 := by
  have area := area_above id
  rw [read_publish_area (by omega)]
  have wrote := Memory.read_writeFrom_inside (fun j => id.areaBase + (r.writePos + j) % id.areaSize) rep.padded m 0 i
    canonical inside (fun j later short => by
      rw [padded_length] at short
      have := place_ne (w := r.writePos) (i := 0 + i) (j := j) (size := id.areaSize) later (by omega)
      omega)
  rwa [Nat.zero_add] at wrote

/-- A byte of the area past the frame (R175). -/
theorem read_publish_past {i : Nat} (past : footprint rep.frame.length ≤ i) (below : i < id.areaSize) :
    (m.publish id r rep).read (id.areaBase + (r.writePos + i) % id.areaSize) =
      m.read (id.areaBase + (r.writePos + i) % id.areaSize) := by
  have area := area_above id
  rw [read_publish_area (by omega)]
  refine Memory.read_writeFrom_outside _ _ _ _ _ fun j _ short => ?_
  rw [padded_length] at short
  have := place_ne (w := r.writePos) (i := j) (j := i) (size := id.areaSize) (by omega) (by omega)
  omega

/-- A byte outside the area and the entry. -/
theorem read_publish_outside {a : Nat} (area : a < id.areaBase ∨ id.areaBase + id.areaSize ≤ a)
    (entry : a < id.tableBase + 4 * (r.publish.toNat % 16) ∨ id.tableBase + 4 * (r.publish.toNat % 16) + 4 ≤ a) :
    (m.publish id r rep).read a = m.read a := by
  unfold Memory.publish
  dsimp only
  rw [Memory.read_writeWord_outside _ _ _ _ (by omega), Memory.read_writeWord_outside _ _ _ _ (by omega)]
  refine Memory.read_writeFrom_outside _ _ _ _ _ fun j _ _ => ?_
  have := Nat.mod_lt (r.writePos + j) (areaSize_pos id)
  omega

/-- The frame table entry (R184). -/
theorem readWord_publish_entry (canonical : m.wf = true) :
    (m.publish id r rep).readWord (id.tableBase + 4 * (r.publish.toNat % 16)) = BitVec.ofNat 16 r.writePos ∧
    (m.publish id r rep).readWord (id.tableBase + 4 * (r.publish.toNat % 16) + 2) =
      BitVec.ofNat 16 rep.frame.length := by
  have wrote := Memory.writeRing_wf m id.areaBase id.areaSize r.writePos rep.padded canonical
  unfold Memory.publish
  dsimp only
  refine ⟨?_, Memory.readWord_writeWord _ _ _ (Memory.writeWord_wf _ _ _ wrote)⟩
  rw [readWord_writeWord_outside (by omega), Memory.readWord_writeWord _ _ _ wrote]
  rfl

end

/-! ### One publication -/

theorem ring_setRing (p : Port) (id : RingId) (r : Ring) : (p.setRing id r).ring id = r := by cases id <;> rfl

theorem setRing_mem (p : Port) (id : RingId) (r : Ring) : (p.setRing id r).mem = p.mem := by cases id <;> rfl

/-- Room for a report in a safe ring (R175). -/
theorem canPublish_iff {id : RingId} {r : Ring} (safe : RingSafe id r) (rep : Report) :
    r.canPublish id.areaSize rep = true ↔
      r.footprints.length < 16 ∧ footprint rep.frame.length + r.footprints.sum ≤ id.areaSize := by
  simp [Ring.canPublish, safe.frames]

theorem publish_of_room {id : RingId} {p : Port} {rep : Report} {rest : List Report}
    (queue : (p.ring id).queue = rep :: rest) (room : (p.ring id).canPublish id.areaSize rep = true) :
    publish 1 id p = ({ p with mem := p.mem.publish id (p.ring id) rep } : Port).setRing id
      ((p.ring id).advance id.areaSize rep rest) := by
  rw [publish, queue]
  exact if_pos room

theorem publish_of_no_room {id : RingId} {p : Port} {rep : Report} {rest : List Report}
    (queue : (p.ring id).queue = rep :: rest) (full : ¬ (p.ring id).canPublish id.areaSize rep = true) :
    publish 1 id p = p := by
  rw [publish, queue]
  exact if_neg full

/-- Settles O59. -/
theorem publishReports : Obligations.PublishReports := by
  unfold Obligations.PublishReports
  intro word byte layout
  have frames (rep : Report) : layout rep = rep.frame := by
    obtain ⟨aux, cycle, body⟩ := rep
    cases body <;> rfl
  refine ⟨fun id p rep rest canonical safe queue => ?_, fun id p empty => publish_of_empty empty,
    fun p event trace => ?serve, rfl, rfl, fun _ => rfl, rfl, rfl, rfl, rfl, ⟨rfl, rfl, rfl⟩, rfl, rfl, rfl⟩
  case serve =>
    rw [← publish_eq_iterate, ← publish_eq_iterate]
    rfl
  intro r frame size place e q
  have same : frame = rep.frame := frames rep
  have room := canPublish_iff safe rep
  have footprint_size : size = footprint rep.frame.length := by rw [footprint, ← same]
  rw [← footprint_size] at room
  refine ⟨fun few fits => ?_, fun none => ?_⟩
  · have whole : q = ({ p with mem := p.mem.publish id r rep } : Port).setRing id (r.advance id.areaSize rep rest) :=
      publish_of_room queue (room.2 ⟨few, fits⟩)
    have mem : q.mem = p.mem.publish id r rep := by rw [whole, setRing_mem]
    have ring : q.ring id = r.advance id.areaSize rep rest := by rw [whole, ring_setRing]
    have small : footprint rep.frame.length ≤ id.areaSize := by omega
    have length := padded_length rep
    obtain ⟨offset, count⟩ := readWord_publish_entry (id := id) (r := r) (rep := rep) canonical
    rw [mem, same]
    refine ⟨?_, by rw [ring]; exact whole, fun i inside => ?_, fun odd => ?_, fun i past below => ?_, offset, count,
      fun a area entry => read_publish_outside area entry⟩
    · rw [ring, footprint_size]
      rfl
    · rw [← padded_getD_frame rep inside]
      exact read_publish_inside canonical small (by rw [length, footprint]; omega)
    · rw [← padded_getD_pad rep]
      exact read_publish_inside canonical small (by rw [length, footprint]; omega)
    · exact read_publish_past (footprint_size ▸ past) below
  · exact publish_of_no_room queue fun fits => by
      obtain ⟨few, bytes⟩ := room.1 fits
      rcases none with full | long
      · exact absurd few (Nat.not_lt.2 full)
      · exact absurd bytes (Nat.not_le.2 long)

end Sys2Proof.Proofs
